-- ==== Sys2Proof/Word.lean ====
section
/-! DEFINITION. The widths of 00_scope.md R12, R13 and R15: every quantity is unsigned, bit 0 is the least
significant bit, and a time is a 32-bit count of milliseconds (TIME_WIDTH of R10). -/

namespace Sys2Proof

/-- `u8`: one payload byte, a result code or a fault code. -/
abbrev Byte := BitVec 8

/-- `u4`: a version or counter nibble, a brightness, the door-open mask. -/
abbrev Nib := BitVec 4

/-- A time in milliseconds, TIME_WIDTH = 32 bits (R10, R15). -/
abbrev Time := BitVec 32

/-- An 11-bit CAN identifier (R61). -/
abbrev Ident := BitVec 11

end Sys2Proof
end

