-- ==== Sys2Proof/Config.lean ====
section
/-! DEFINITION. The parameters of 00_scope.md R10 whose status is OPEN. R11: "A model therefore carries all
OPEN rows in a configuration record fixed for the life of an instance". The record stands in `State.cfg`
and no operation writes it (log entry 4). The numbers the spec decides stand in Machine/Codes.lean. -/

namespace Sys2Proof

/-- The configuration record of R11, one field for each OPEN row of R10. -/
structure Config where
  /-- FAULT_CAPACITY, the greatest number of fault records (P1). -/
  faultCapacity : Nat
  /-- ON_THRESHOLD: below it an unlit auto headlight is lit (P2). -/
  onThreshold : Byte
  /-- OFF_THRESHOLD: above it a lit auto headlight is put out (P2). -/
  offThreshold : Byte
  /-- AMBIENT_TIMEOUT_MS (P3). -/
  ambientTimeoutMs : Time
  /-- TURN_ON_MS (P4). -/
  turnOnMs : Time
  /-- TURN_OFF_MS (P4). -/
  turnOffMs : Time
  /-- HAZ_ON_MS (P4). -/
  hazOnMs : Time
  /-- HAZ_OFF_MS (P4). -/
  hazOffMs : Time
  /-- TURN_IDLE_TIMEOUT_MS (P5). -/
  turnIdleTimeoutMs : Time
  /-- FAST_PERIOD_MS (P6). -/
  fastPeriodMs : Time
  /-- SLOW_PERIOD_MS (P7). -/
  slowPeriodMs : Time
deriving DecidableEq, Repr

/-- The constraints R10 puts on the parameters; U7 of 93_implementation_defined.md refuses any other record. -/
def Config.legal (c : Config) : Bool :=
  decide (1 ≤ c.faultCapacity) && decide (c.faultCapacity ≤ 255) &&
  decide (c.onThreshold < c.offThreshold) &&
  decide (0 < c.hazOnMs) && decide (c.hazOnMs < c.turnOnMs) &&
  decide (0 < c.hazOffMs) && decide (c.hazOffMs < c.turnOffMs) &&
  decide (0 < c.fastPeriodMs) && decide (0 < c.slowPeriodMs)

end Sys2Proof
end

