-- ==== Sys2Proof/Machine/Codes.lean ====
section
/-! DEFINITION. The numbers the spec fixes: identifiers and constants of 00_scope.md R10, command codes of
30_encoding.md R96 to R99, result codes R290, fault codes R291, rendered codes R28 and R30, and the one
concrete configuration CFG_REF of R10. Each is a named constant, as D5, D6, D15 and D25 ask. -/

namespace Sys2Proof.Machine

/-! Identifiers (R10, R63). -/
def idDoorCmd : Ident := 0x100
def idLightingCmd : Ident := 0x110
def idTurnCmd : Ident := 0x120
def idDoorStatus : Ident := 0x200
def idLightingStatus : Ident := 0x210
def idTurnStatus : Ident := 0x220
def idFaultStatus : Ident := 0x230
def idHeartbeat : Ident := 0x240

/-- CHECKSUM_SEED (R10). -/
def checksumSeed : Byte := 0xAA

/-- SCHEMA_VERSION, the version nibble of every transmitted frame (R10, D4). -/
def schemaVersion : Nib := 1

/-! DOOR_CMD command codes (R96). -/
def cmdLockAll : Byte := 1
def cmdUnlockAll : Byte := 2
def cmdLockSingle : Byte := 3
def cmdUnlockSingle : Byte := 4

/-! LIGHTING_CMD headlight codes (R97). -/
def cmdHlOff : Byte := 0
def cmdHlOn : Byte := 1
def cmdHlAuto : Byte := 2
def cmdHlHighOn : Byte := 3
def cmdHlHighOff : Byte := 4

/-! LIGHTING_CMD interior mode codes (R98). -/
def codeIntOff : BitVec 2 := 0
def codeIntOn : BitVec 2 := 1
def codeIntAuto : BitVec 2 := 2

/-! TURN_CMD command codes (R99). -/
def cmdTurnOff : Byte := 0
def cmdTurnLeft : Byte := 1
def cmdTurnRight : Byte := 2
def cmdHazardOn : Byte := 3
def cmdHazardOff : Byte := 4

/-! Result codes (R290). -/
def resOk : Byte := 0
def resInvalidCommand : Byte := 1
def resChecksumError : Byte := 2
def resCounterError : Byte := 3

/-! Fault codes (R291). -/
def fcInvalidLength : Byte := 1
def fcInvalidChecksum : Byte := 2
def fcInvalidCounter : Byte := 3
def fcInvalidCommand : Byte := 4
def fcTimeout : Byte := 5

/-! Heartbeat byte 0 (R10, R269). -/
def bcmStateNormal : Byte := 0
def bcmStateFault : Byte := 1

/-- STATUS_PERIOD_MS (R10, R266; P8 "defined as 100", log entry 13). -/
def statusPeriodMs : Time := 100

/-- CFG_REF, the last column of R10 (log entry 4). -/
def cfgRef : Config where
  faultCapacity := 8
  onThreshold := 50
  offThreshold := 100
  ambientTimeoutMs := 5000
  turnOnMs := 500
  turnOffMs := 500
  hazOnMs := 300
  hazOffMs := 300
  turnIdleTimeoutMs := 30000
  fastPeriodMs := 10
  slowPeriodMs := 500

end Sys2Proof.Machine
end

