-- ==== Sys2Proof/Machine/Codec.lean ====
section
/-! DEFINITION. The six functions of the Frame Codec (40_codec.md R120 to R126): pure, no state. -/

namespace Sys2Proof.Machine

/-- R121: the XOR fold with seed 0xAA. On the empty sequence the fold gives the seed; the port refuses that
call (U1) and no rule of the core reaches it. -/
def checksum (bytes : List Byte) : Byte := bytes.foldl (· ^^^ ·) checksumSeed

/-- R122. -/
def validateChecksum (bytes : List Byte) (claimed : Byte) : Bool := checksum bytes == claimed

/-- R123: `{version, counter}`. -/
def buildVc (version counter : Nib) : Byte := version ++ counter

/-- R124: bits 7:4. -/
def extractVersion (byte : Byte) : Nib := byte.extractLsb' 4 4

/-- R125: bits 3:0. -/
def extractCounter (byte : Byte) : Nib := byte.extractLsb' 0 4

/-- R126: `received == (last + 1) mod 16`; a nibble's addition wraps at 16. -/
def validateCounter (received last : Nib) : Bool := received == last + 1

end Sys2Proof.Machine
end

