-- ==== Sys2Proof/Machine/Operands.lean ====
section
/-! DEFINITION. Every operand form of a command frame (30_encoding.md R88 to R90) and every packing of a
status byte (R91, R92), with the byte and bit helpers the decoder and the meanings share. -/

namespace Sys2Proof.Machine

/-- The number of a door, 0 to 3 (NUM_DOORS = 4). -/
abbrev DoorNo := BitVec 2

/-- R88, R182: the door-select byte names a door exactly when it is 0, 1, 2 or 3. -/
def doorSelect (b : Byte) : Option DoorNo :=
  if b < 4 then some (b.extractLsb' 0 2) else none

/-- R89: `interior[1:0]`. -/
def interiorModeBits (b : Byte) : BitVec 2 := b.extractLsb' 0 2

/-- R89: `interior[7:4]`. -/
def interiorBrightnessBits (b : Byte) : Nib := b.extractLsb' 4 4

/-- R89: `interior[3:2]`, ignored. -/
def interiorIgnoredBits (b : Byte) : BitVec 2 := b.extractLsb' 2 2

/-- The interior byte of a command from its three fields (R89). -/
def interiorByte (bri : Nib) (ign mode : BitVec 2) : Byte := (bri ++ ign ++ mode : BitVec 8)

/-- The five legal headlight codes (R97). -/
inductive HeadlightCmd where
  | off | on | auto | highOn | highOff
deriving DecidableEq, Repr

/-- R97, R201: the headlight sub-command a byte spells, if any. -/
def headlightCmd (b : Byte) : Option HeadlightCmd :=
  if b = cmdHlOff then some .off
  else if b = cmdHlOn then some .on
  else if b = cmdHlAuto then some .auto
  else if b = cmdHlHighOn then some .highOn
  else if b = cmdHlHighOff then some .highOff
  else none

/-- The byte of a headlight sub-command (R97). -/
def HeadlightCmd.code : HeadlightCmd → Byte
  | .off => cmdHlOff
  | .on => cmdHlOn
  | .auto => cmdHlAuto
  | .highOn => cmdHlHighOn
  | .highOff => cmdHlHighOff

/-- The three legal interior modes (R98), with their brightness operand where the mode takes one (R206). -/
inductive InteriorCmd where
  | off
  | on (bri : Nib)
  | auto
deriving DecidableEq, Repr

/-- R98, R202: the interior sub-command a byte spells, if any. -/
def interiorCmd (b : Byte) : Option InteriorCmd :=
  if interiorModeBits b = codeIntOff then some .off
  else if interiorModeBits b = codeIntOn then some (.on (interiorBrightnessBits b))
  else if interiorModeBits b = codeIntAuto then some .auto
  else none

/-- The five legal turn commands (R99). -/
inductive TurnCmd where
  | off | left | right | hazardOn | hazardOff
deriving DecidableEq, Repr

/-- R99, R231: the turn command a byte spells, if any. -/
def turnCmd (b : Byte) : Option TurnCmd :=
  if b = cmdTurnOff then some .off
  else if b = cmdTurnLeft then some .left
  else if b = cmdTurnRight then some .right
  else if b = cmdHazardOn then some .hazardOn
  else if b = cmdHazardOff then some .hazardOff
  else none

/-- R92: byte 1 of LIGHTING_STATUS, `{0b00, brightness, mode}`. -/
def interiorStatusByte (bri : Nib) (mode : BitVec 2) : Byte := (0#2 ++ bri ++ mode : BitVec 8)

/-- R91: a mask byte whose bit `i` is the `i`-th argument and whose upper bits are 0. -/
def maskByte (b0 b1 b2 b3 : Bool) : Byte :=
  0#4 ++ BitVec.ofBool b3 ++ BitVec.ofBool b2 ++ BitVec.ofBool b1 ++ BitVec.ofBool b0

/-- The four bytes of a time, the least significant first (log entry 2). -/
def timeBytes (t : Time) : List Byte :=
  [t.extractLsb' 0 8, t.extractLsb' 8 8, t.extractLsb' 16 8, t.extractLsb' 24 8]

/-- The time four bytes spell, the least significant first (log entry 2). -/
def timeOf (b0 b1 b2 b3 : Byte) : Time := (b3 ++ b2 ++ b1 ++ b0 : BitVec 32)

end Sys2Proof.Machine
end

