-- ==== Sys2Proof/Syntax.lean ====
section
/-! DEFINITION. The frame value (10_state.md R23), the presented operation as it stands at the operation
port, and `Instr`: one constructor for every row of spec/opcode_table.json. -/

namespace Sys2Proof

/-- R23: "an immutable value: `identifier` (11-bit unsigned), `length` (0–8), `payload` (up to 8 bytes)".
The length is the number of payload bytes, so a frame with fewer or more bytes than its length cannot be
written (U5). -/
structure Frame where
  id   : Ident
  data : List Byte
deriving DecidableEq, Repr

/-- `f.len` of R14. -/
abbrev Frame.len (f : Frame) : Nat := f.data.length

/-- How an operation stands at the port: as a frame word `W` of 30_encoding.md R85 with a time, or as an
operation select `OPSEL` of R105 with operands (log entry 2). -/
inductive Lane where
  | frameWord
  | operation
deriving DecidableEq, Repr

/-- One presented operation: its lane and its bytes, the least significant byte first (log entry 2). -/
structure Packet where
  lane  : Lane
  bytes : List Byte
deriving DecidableEq, Repr

/-- The 48 rows of spec/opcode_table.json. A command or status frame carries the fields of its row and the
`now` of the ROUTE that brings it (log entries 10 and 11); a port operation carries the operands of
20_memory.md R62. -/
inductive Instr where
  -- DOOR_CMD 0x100 (R96)
  | doorLockAll      (doorId : Byte) (ver ctr : Nib) (ck : Byte) (now : Time)
  | doorUnlockAll    (doorId : Byte) (ver ctr : Nib) (ck : Byte) (now : Time)
  | doorLockSingle   (doorId : Byte) (ver ctr : Nib) (ck : Byte) (now : Time)
  | doorUnlockSingle (doorId : Byte) (ver ctr : Nib) (ck : Byte) (now : Time)
  -- LIGHTING_CMD 0x110, headlight rows (R97)
  | lightHlOff       (interior : Byte) (ver ctr : Nib) (ck : Byte) (now : Time)
  | lightHlOn        (interior : Byte) (ver ctr : Nib) (ck : Byte) (now : Time)
  | lightHlAuto      (interior : Byte) (ver ctr : Nib) (ck : Byte) (now : Time)
  | lightHlHighOn    (interior : Byte) (ver ctr : Nib) (ck : Byte) (now : Time)
  | lightHlHighOff   (interior : Byte) (ver ctr : Nib) (ck : Byte) (now : Time)
  -- LIGHTING_CMD 0x110, interior rows (R98)
  | lightIntOff      (headlight : Byte) (bri : Nib) (ign : BitVec 2) (ver ctr : Nib) (ck : Byte) (now : Time)
  | lightIntOn       (headlight : Byte) (bri : Nib) (ign : BitVec 2) (ver ctr : Nib) (ck : Byte) (now : Time)
  | lightIntAuto     (headlight : Byte) (bri : Nib) (ign : BitVec 2) (ver ctr : Nib) (ck : Byte) (now : Time)
  -- TURN_CMD 0x120 (R99)
  | turnOff          (rsv : Byte) (ver ctr : Nib) (ck : Byte) (now : Time)
  | turnLeft         (rsv : Byte) (ver ctr : Nib) (ck : Byte) (now : Time)
  | turnRight        (rsv : Byte) (ver ctr : Nib) (ck : Byte) (now : Time)
  | turnHazardOn     (rsv : Byte) (ver ctr : Nib) (ck : Byte) (now : Time)
  | turnHazardOff    (rsv : Byte) (ver ctr : Nib) (ck : Byte) (now : Time)
  -- transmitted frames (R82 to R84), as inbound words
  | doorStatus       (locks opens result faultCount vc ck : Byte) (now : Time)
  | lightingStatus   (headlightOut interior ambient result vc ck : Byte) (now : Time)
  | turnStatus       (mode lamps flashCount result vc ck : Byte) (now : Time)
  | faultStatus      (flags1 flags2 totalCount recentCode tsHi tsLo vc ck : Byte) (now : Time)
  | heartbeat        (state uptimeMin vc ck : Byte) (now : Time)
  -- port operations (R105)
  | route            (f : Frame) (now : Time)
  | sched            (now : Time)
  | doorTick
  | lightTick        (now : Time)
  | turnTick         (now : Time)
  | checkTimeout     (now : Time)
  | setAmbient       (level : Byte) (now : Time)
  | setDoorOpen      (mask : Nib)
  | renderDoorStatus
  | renderLightStatus
  | renderTurnStatus
  | renderFaultStatus
  | renderHeartbeat  (now : Time)
  | faultReport      (code : Byte) (now : Time)
  | faultClear       (code : Byte)
  | faultClearAll
  | faultIsActive    (code : Byte)
  | faultCount
  | faultFlags
  | faultMostRecent
  | checksum         (bytes : List Byte)
  | validateChecksum (claimed : Byte) (bytes : List Byte)
  | buildVc          (version counter : Nib)
  | extractVersion   (byte : Byte)
  | extractCounter   (byte : Byte)
  | validateCounter  (received last : Nib)
deriving DecidableEq, Repr

end Sys2Proof
end

