-- ==== Sys2Proof/WellFormed.lean ====
section
/-! DEFINITION. The operand values the port takes. Each check is one line of 93_implementation_defined.md
section 1; every other operand value of every constructor is legal as an operation (an illegal command byte
or parameter is a legal frame that the core rejects). -/

namespace Sys2Proof

/-- U5: a frame of more than 8 payload bytes is no Frame value. -/
def Frame.wellFormed (f : Frame) : Bool := decide (f.data.length ≤ 8)

/-- The checks U1 (a non-empty byte sequence), U2 (a fault code other than 0) and U5 (a Frame value). -/
def Instr.wellFormed : Instr → Bool
  | .route f _ => f.wellFormed
  | .faultReport code _ => decide (code ≠ 0)
  | .checksum bytes => decide (bytes ≠ [])
  | .validateChecksum _ bytes => decide (bytes ≠ [])
  | .doorLockAll .. | .doorUnlockAll .. | .doorLockSingle .. | .doorUnlockSingle ..
  | .lightHlOff .. | .lightHlOn .. | .lightHlAuto .. | .lightHlHighOn .. | .lightHlHighOff ..
  | .lightIntOff .. | .lightIntOn .. | .lightIntAuto ..
  | .turnOff .. | .turnLeft .. | .turnRight .. | .turnHazardOn .. | .turnHazardOff ..
  | .doorStatus .. | .lightingStatus .. | .turnStatus .. | .faultStatus .. | .heartbeat ..
  | .sched .. | .doorTick | .lightTick .. | .turnTick .. | .checkTimeout .. | .setAmbient ..
  | .setDoorOpen .. | .renderDoorStatus | .renderLightStatus | .renderTurnStatus
  | .renderFaultStatus | .renderHeartbeat .. | .faultClear .. | .faultClearAll
  | .faultIsActive .. | .faultCount | .faultFlags | .faultMostRecent
  | .buildVc .. | .extractVersion .. | .extractCounter .. | .validateCounter .. => true

/-- The time an operation is presented with, where it takes one (R62: the `now` column). -/
def Instr.time? : Instr → Option Time
  | .doorLockAll _ _ _ _ now | .doorUnlockAll _ _ _ _ now
  | .doorLockSingle _ _ _ _ now | .doorUnlockSingle _ _ _ _ now
  | .lightHlOff _ _ _ _ now | .lightHlOn _ _ _ _ now | .lightHlAuto _ _ _ _ now
  | .lightHlHighOn _ _ _ _ now | .lightHlHighOff _ _ _ _ now
  | .lightIntOff _ _ _ _ _ _ now | .lightIntOn _ _ _ _ _ _ now | .lightIntAuto _ _ _ _ _ _ now
  | .turnOff _ _ _ _ now | .turnLeft _ _ _ _ now | .turnRight _ _ _ _ now
  | .turnHazardOn _ _ _ _ now | .turnHazardOff _ _ _ _ now
  | .doorStatus _ _ _ _ _ _ now | .lightingStatus _ _ _ _ _ _ now | .turnStatus _ _ _ _ _ _ now
  | .faultStatus _ _ _ _ _ _ _ _ now | .heartbeat _ _ _ _ now
  | .route _ now | .sched now | .lightTick now | .turnTick now | .checkTimeout now
  | .setAmbient _ now | .renderHeartbeat now | .faultReport _ now => some now
  | .doorTick | .setDoorOpen _ | .renderDoorStatus | .renderLightStatus | .renderTurnStatus
  | .renderFaultStatus | .faultClear _ | .faultClearAll | .faultIsActive _ | .faultCount
  | .faultFlags | .faultMostRecent | .checksum _ | .validateChecksum _ _ | .buildVc _ _
  | .extractVersion _ | .extractCounter _ | .validateCounter _ _ => none

end Sys2Proof
end

