-- ==== Sys2Proof/Decode.lean ====
section
/-! DEFINITION. Reading a presented operation (30_encoding.md R85, R95 to R100, R105), and writing one. The
frame word W and OPSEL are the spec's; where the operands of a port operation lie is the model's (log entry 2).
`decode` is total on any packet and rejects by name. -/

namespace Sys2Proof

open Sys2Proof.Machine

/-- Why a packet is no presented operation. -/
inductive DecodeError where
  /-- U4: OPSEL 11010 and above name no operation. -/
  | noSuchOperation
  /-- U5: no Frame value: a length that is not the number of payload bytes, a length above 8, or an
  identifier of more than 11 bits. -/
  | notAFrame
  /-- The operand bytes are not those the selected operation takes (log entry 17). -/
  | malformedOperands
deriving DecidableEq, Repr

/-! ## Frame words -/

/-- The row of the opcode table a 4-byte frame matches (R95, R100), or ROUTE of the frame where it matches
none. A lighting word matches a headlight row, an interior row or both; both: the interior row where the
headlight code is 0 and the interior byte is not 0, else the headlight row (log entry 3). -/
def spell4 (id : Ident) (b0 b1 b2 b3 : Byte) (now : Time) : Instr :=
  let ver := extractVersion b2
  let ctr := extractCounter b2
  let other := Instr.route ⟨id, [b0, b1, b2, b3]⟩ now
  if id = idDoorCmd then
    if b0 = cmdLockAll then .doorLockAll b1 ver ctr b3 now
    else if b0 = cmdUnlockAll then .doorUnlockAll b1 ver ctr b3 now
    else if b0 = cmdLockSingle then .doorLockSingle b1 ver ctr b3 now
    else if b0 = cmdUnlockSingle then .doorUnlockSingle b1 ver ctr b3 now
    else other
  else if id = idLightingCmd then
    match headlightCmd b0, interiorCmd b1 with
    | some .off, some m =>
      if b1 = 0 then .lightHlOff b1 ver ctr b3 now else spellInterior b0 b1 m ver ctr b3 now
    | some .off, none => .lightHlOff b1 ver ctr b3 now
    | some .on, _ => .lightHlOn b1 ver ctr b3 now
    | some .auto, _ => .lightHlAuto b1 ver ctr b3 now
    | some .highOn, _ => .lightHlHighOn b1 ver ctr b3 now
    | some .highOff, _ => .lightHlHighOff b1 ver ctr b3 now
    | none, some m => spellInterior b0 b1 m ver ctr b3 now
    | none, none => other
  else if id = idTurnCmd then
    match turnCmd b0 with
    | some .off => .turnOff b1 ver ctr b3 now
    | some .left => .turnLeft b1 ver ctr b3 now
    | some .right => .turnRight b1 ver ctr b3 now
    | some .hazardOn => .turnHazardOn b1 ver ctr b3 now
    | some .hazardOff => .turnHazardOff b1 ver ctr b3 now
    | none => other
  else if id = idHeartbeat then .heartbeat b0 b1 b2 b3 now
  else other
where
  /-- The interior row of a lighting word (R98). -/
  spellInterior (b0 b1 : Byte) (m : InteriorCmd) (ver ctr : Nib) (ck : Byte) (now : Time) : Instr :=
    match m with
    | .off => .lightIntOff b0 (interiorBrightnessBits b1) (interiorIgnoredBits b1) ver ctr ck now
    | .on _ => .lightIntOn b0 (interiorBrightnessBits b1) (interiorIgnoredBits b1) ver ctr ck now
    | .auto => .lightIntAuto b0 (interiorBrightnessBits b1) (interiorIgnoredBits b1) ver ctr ck now

/-- The row a frame matches, or ROUTE of it (R95). -/
def spell (f : Frame) (now : Time) : Instr :=
  match f.data with
  | [b0, b1, b2, b3] => spell4 f.id b0 b1 b2 b3 now
  | [b0, b1, b2, b3, vc, ck] =>
    if f.id = idDoorStatus then .doorStatus b0 b1 b2 b3 vc ck now
    else if f.id = idLightingStatus then .lightingStatus b0 b1 b2 b3 vc ck now
    else if f.id = idTurnStatus then .turnStatus b0 b1 b2 b3 vc ck now
    else .route f now
  | [b0, b1, b2, b3, b4, b5, vc, ck] =>
    if f.id = idFaultStatus then .faultStatus b0 b1 b2 b3 b4 b5 vc ck now else .route f now
  | _ => .route f now

/-- The upper byte of `{id, len}`: `{0, id[10:4]}` (R85). -/
def frameHeadHi (id : Ident) : Byte := (0#1 ++ id.extractLsb' 4 7 : BitVec 8)

/-- The lower byte of `{id, len}`: `{id[3:0], len}` (R85). -/
def frameHeadLo (id : Ident) (len : Nat) : Byte := (id.extractLsb' 0 4 ++ BitVec.ofNat 4 len : BitVec 8)

/-- A frame word read from its most significant byte down, after the four bytes of its time (R85). -/
def decodeFrameBytes : List Byte → Except DecodeError Instr
  | t3 :: t2 :: t1 :: t0 :: hi :: lo :: data =>
    let id : Ident := (hi.extractLsb' 0 7 ++ lo.extractLsb' 4 4 : BitVec 11)
    if hi.extractLsb' 7 1 = 0 ∧ (lo.extractLsb' 0 4).toNat = data.length ∧ data.length ≤ 8 then
      .ok (spell ⟨id, data⟩ (timeOf t0 t1 t2 t3))
    else .error .notAFrame
  | _ => .error .notAFrame

/-- The bytes of the frame word W with its time, the least significant byte first (R85). -/
def encodeFrameBytes (f : Frame) (now : Time) : List Byte :=
  ((timeBytes now).reverse ++ frameHeadHi f.id :: frameHeadLo f.id f.data.length :: f.data).reverse

/-! ## Port operations -/

/-- A byte that carries a nibble: its upper four bits are 0. -/
def nibOf (b : Byte) : Option Nib := if b.extractLsb' 4 4 = 0#4 then some (b.extractLsb' 0 4) else none

/-- The byte that carries a nibble. -/
def nibByte (n : Nib) : Byte := (0#4 ++ n : BitVec 8)

/-- No operand. -/
def opNone (i : Instr) : List Byte → Except DecodeError Instr
  | [] => .ok i
  | _ => .error .malformedOperands

/-- One byte operand. -/
def opByte (k : Byte → Instr) : List Byte → Except DecodeError Instr
  | [b] => .ok (k b)
  | _ => .error .malformedOperands

/-- One nibble operand. -/
def opNib (k : Nib → Instr) : List Byte → Except DecodeError Instr
  | [b] => match nibOf b with
    | some n => .ok (k n)
    | none => .error .malformedOperands
  | _ => .error .malformedOperands

/-- Two nibble operands. -/
def opNibNib (k : Nib → Nib → Instr) : List Byte → Except DecodeError Instr
  | [b, c] => match nibOf b, nibOf c with
    | some n, some m => .ok (k n m)
    | _, _ => .error .malformedOperands
  | _ => .error .malformedOperands

/-- The operand `now`. -/
def opTime (k : Time → Instr) : List Byte → Except DecodeError Instr
  | [t0, t1, t2, t3] => .ok (k (timeOf t0 t1 t2 t3))
  | _ => .error .malformedOperands

/-- The operand `now` and one byte operand. -/
def opTimeByte (k : Byte → Time → Instr) : List Byte → Except DecodeError Instr
  | [t0, t1, t2, t3, b] => .ok (k b (timeOf t0 t1 t2 t3))
  | _ => .error .malformedOperands

/-- A byte operand and the byte sequence after it. -/
def opByteBytes (k : Byte → List Byte → Instr) : List Byte → Except DecodeError Instr
  | b :: bs => .ok (k b bs)
  | _ => .error .malformedOperands

/-- The operands of ROUTE: `now`, the identifier, the length, the payload (U5). -/
def opFrame : List Byte → Except DecodeError Instr
  | t0 :: t1 :: t2 :: t3 :: lo :: hi :: n :: data =>
    if hi.extractLsb' 3 5 = 0#5 ∧ n.toNat = data.length ∧ data.length ≤ 8 then
      .ok (.route ⟨(hi.extractLsb' 0 3 ++ lo : BitVec 11), data⟩ (timeOf t0 t1 t2 t3))
    else .error .notAFrame
  | _ => .error .malformedOperands

/-- R105: the operation OPSEL selects, read with its operand bytes. -/
def decodeOperation (sel : Byte) (rest : List Byte) : Except DecodeError Instr :=
  match sel.toNat with
  | 0  => opFrame rest
  | 1  => opTime .sched rest
  | 2  => opNone .doorTick rest
  | 3  => opTime .lightTick rest
  | 4  => opTime .turnTick rest
  | 5  => opTime .checkTimeout rest
  | 6  => opTimeByte .setAmbient rest
  | 7  => opNib .setDoorOpen rest
  | 8  => opNone .renderDoorStatus rest
  | 9  => opNone .renderLightStatus rest
  | 10 => opNone .renderTurnStatus rest
  | 11 => opNone .renderFaultStatus rest
  | 12 => opTime .renderHeartbeat rest
  | 13 => opTimeByte .faultReport rest
  | 14 => opByte .faultClear rest
  | 15 => opNone .faultClearAll rest
  | 16 => opByte .faultIsActive rest
  | 17 => opNone .faultCount rest
  | 18 => opNone .faultFlags rest
  | 19 => opNone .faultMostRecent rest
  | 20 => .ok (.checksum rest)
  | 21 => opByteBytes .validateChecksum rest
  | 22 => opNibNib .buildVc rest
  | 23 => opByte .extractVersion rest
  | 24 => opByte .extractCounter rest
  | 25 => opNibNib .validateCounter rest
  | _  => .error .noSuchOperation

/-- The operation a packet presents. Operand values the port refuses (U1, U2) decode; `exec` refuses them
(log entry 12). -/
def decode (p : Packet) : Except DecodeError Instr :=
  match p.lane, p.bytes with
  | .frameWord, bytes => decodeFrameBytes bytes.reverse
  | .operation, sel :: rest => decodeOperation sel rest
  | .operation, [] => .error .noSuchOperation

/-! ## The encoder -/

/-- The frame of an RX4 row (R81): command byte, parameter byte, ver/ctr byte, checksum byte. -/
def commandFrame (id : Ident) (op arg : Byte) (ver ctr : Nib) (ck : Byte) : Frame :=
  ⟨id, [op, arg, buildVc ver ctr, ck]⟩

/-- The frame an instruction of the frame rows stands for, with the time it is brought at (R81 to R84). -/
def Instr.frame? : Instr → Option (Frame × Time)
  | .doorLockAll d v c k now => some (commandFrame idDoorCmd cmdLockAll d v c k, now)
  | .doorUnlockAll d v c k now => some (commandFrame idDoorCmd cmdUnlockAll d v c k, now)
  | .doorLockSingle d v c k now => some (commandFrame idDoorCmd cmdLockSingle d v c k, now)
  | .doorUnlockSingle d v c k now => some (commandFrame idDoorCmd cmdUnlockSingle d v c k, now)
  | .lightHlOff i v c k now => some (commandFrame idLightingCmd cmdHlOff i v c k, now)
  | .lightHlOn i v c k now => some (commandFrame idLightingCmd cmdHlOn i v c k, now)
  | .lightHlAuto i v c k now => some (commandFrame idLightingCmd cmdHlAuto i v c k, now)
  | .lightHlHighOn i v c k now => some (commandFrame idLightingCmd cmdHlHighOn i v c k, now)
  | .lightHlHighOff i v c k now => some (commandFrame idLightingCmd cmdHlHighOff i v c k, now)
  | .lightIntOff h b g v c k now =>
    some (commandFrame idLightingCmd h (interiorByte b g codeIntOff) v c k, now)
  | .lightIntOn h b g v c k now =>
    some (commandFrame idLightingCmd h (interiorByte b g codeIntOn) v c k, now)
  | .lightIntAuto h b g v c k now =>
    some (commandFrame idLightingCmd h (interiorByte b g codeIntAuto) v c k, now)
  | .turnOff r v c k now => some (commandFrame idTurnCmd cmdTurnOff r v c k, now)
  | .turnLeft r v c k now => some (commandFrame idTurnCmd cmdTurnLeft r v c k, now)
  | .turnRight r v c k now => some (commandFrame idTurnCmd cmdTurnRight r v c k, now)
  | .turnHazardOn r v c k now => some (commandFrame idTurnCmd cmdHazardOn r v c k, now)
  | .turnHazardOff r v c k now => some (commandFrame idTurnCmd cmdHazardOff r v c k, now)
  | .doorStatus b0 b1 b2 b3 vc ck now => some (⟨idDoorStatus, [b0, b1, b2, b3, vc, ck]⟩, now)
  | .lightingStatus b0 b1 b2 b3 vc ck now => some (⟨idLightingStatus, [b0, b1, b2, b3, vc, ck]⟩, now)
  | .turnStatus b0 b1 b2 b3 vc ck now => some (⟨idTurnStatus, [b0, b1, b2, b3, vc, ck]⟩, now)
  | .faultStatus b0 b1 b2 b3 b4 b5 vc ck now =>
    some (⟨idFaultStatus, [b0, b1, b2, b3, b4, b5, vc, ck]⟩, now)
  | .heartbeat b0 b1 vc ck now => some (⟨idHeartbeat, [b0, b1, vc, ck]⟩, now)
  | .route .. | .sched .. | .doorTick | .lightTick .. | .turnTick .. | .checkTimeout ..
  | .setAmbient .. | .setDoorOpen .. | .renderDoorStatus | .renderLightStatus | .renderTurnStatus
  | .renderFaultStatus | .renderHeartbeat .. | .faultReport .. | .faultClear .. | .faultClearAll
  | .faultIsActive .. | .faultCount | .faultFlags | .faultMostRecent | .checksum ..
  | .validateChecksum .. | .buildVc .. | .extractVersion .. | .extractCounter ..
  | .validateCounter .. => none

/-- The operand bytes of ROUTE. -/
def routeBytes (f : Frame) (now : Time) : List Byte :=
  timeBytes now ++ f.id.extractLsb' 0 8 :: (0#5 ++ f.id.extractLsb' 8 3 : BitVec 8) ::
    BitVec.ofNat 8 f.data.length :: f.data

/-- OPSEL and the operand bytes of a port operation (R105); none for a frame row. -/
def Instr.operation? : Instr → Option (Byte × List Byte)
  | .route f now => some (0, routeBytes f now)
  | .sched now => some (1, timeBytes now)
  | .doorTick => some (2, [])
  | .lightTick now => some (3, timeBytes now)
  | .turnTick now => some (4, timeBytes now)
  | .checkTimeout now => some (5, timeBytes now)
  | .setAmbient level now => some (6, timeBytes now ++ [level])
  | .setDoorOpen mask => some (7, [nibByte mask])
  | .renderDoorStatus => some (8, [])
  | .renderLightStatus => some (9, [])
  | .renderTurnStatus => some (10, [])
  | .renderFaultStatus => some (11, [])
  | .renderHeartbeat now => some (12, timeBytes now)
  | .faultReport code now => some (13, timeBytes now ++ [code])
  | .faultClear code => some (14, [code])
  | .faultClearAll => some (15, [])
  | .faultIsActive code => some (16, [code])
  | .faultCount => some (17, [])
  | .faultFlags => some (18, [])
  | .faultMostRecent => some (19, [])
  | .checksum bytes => some (20, bytes)
  | .validateChecksum claimed bytes => some (21, claimed :: bytes)
  | .buildVc version counter => some (22, [nibByte version, nibByte counter])
  | .extractVersion byte => some (23, [byte])
  | .extractCounter byte => some (24, [byte])
  | .validateCounter received last => some (25, [nibByte received, nibByte last])
  | .doorLockAll .. | .doorUnlockAll .. | .doorLockSingle .. | .doorUnlockSingle ..
  | .lightHlOff .. | .lightHlOn .. | .lightHlAuto .. | .lightHlHighOn .. | .lightHlHighOff ..
  | .lightIntOff .. | .lightIntOn .. | .lightIntAuto ..
  | .turnOff .. | .turnLeft .. | .turnRight .. | .turnHazardOn .. | .turnHazardOff ..
  | .doorStatus .. | .lightingStatus .. | .turnStatus .. | .faultStatus .. | .heartbeat .. => none

/-- The packet that presents an instruction. -/
def encode (i : Instr) : Packet :=
  match i.frame?, i.operation? with
  | some (f, now), _ => ⟨.frameWord, encodeFrameBytes f now⟩
  | none, some (sel, operands) => ⟨.operation, sel :: operands⟩
  | none, none => ⟨.operation, []⟩

/-- The instructions a word is decoded back to: all of them, but for a lighting row whose word the model
spells by the other row it matches (R100, log entry 3). -/
def Instr.spelledByOwnRow : Instr → Prop
  | .lightHlOff interior .. => interior = 0 ∨ interiorCmd interior = none
  | .lightIntOff h b g .. => headlightCmd h = none ∨ (h = cmdHlOff ∧ interiorByte b g codeIntOff ≠ 0)
  | .lightIntOn h .. => headlightCmd h = none ∨ h = cmdHlOff
  | .lightIntAuto h .. => headlightCmd h = none ∨ h = cmdHlOff
  | .doorLockAll .. | .doorUnlockAll .. | .doorLockSingle .. | .doorUnlockSingle ..
  | .lightHlOn .. | .lightHlAuto .. | .lightHlHighOn .. | .lightHlHighOff ..
  | .turnOff .. | .turnLeft .. | .turnRight .. | .turnHazardOn .. | .turnHazardOff ..
  | .doorStatus .. | .lightingStatus .. | .turnStatus .. | .faultStatus .. | .heartbeat ..
  | .route .. | .sched .. | .doorTick | .lightTick .. | .turnTick .. | .checkTimeout ..
  | .setAmbient .. | .setDoorOpen .. | .renderDoorStatus | .renderLightStatus | .renderTurnStatus
  | .renderFaultStatus | .renderHeartbeat .. | .faultReport .. | .faultClear .. | .faultClearAll
  | .faultIsActive .. | .faultCount | .faultFlags | .faultMostRecent | .checksum ..
  | .validateChecksum .. | .buildVc .. | .extractVersion .. | .extractCounter ..
  | .validateCounter .. => True

/-! ## The table's words -/

/-- `n` bytes of a number, the least significant first. -/
def leBytes : Nat → Nat → List Byte
  | 0, _ => []
  | n + 1, w => BitVec.ofNat 8 w :: leBytes n (w / 256)

/-- How many operand bytes the shortest form of a port operation has (log entries 2 and 12): a byte sequence
of one byte, a frame without payload. -/
def operandCount (sel : Nat) : Nat :=
  match sel with
  | 0 => 7
  | 1 | 3 | 4 | 5 | 12 => 4
  | 6 | 13 => 5
  | 7 | 14 | 16 | 20 | 23 | 24 => 1
  | 21 | 22 | 25 => 2
  | _ => 0

/-- The packet of a row's word: OPSEL with operand bytes of zeros where the row has up to 8 bits, else the
frame word W with the time 0 (log entry 2). -/
def tablePacket (nbits w : Nat) : Packet :=
  if nbits ≤ 8 then ⟨.operation, BitVec.ofNat 8 w :: List.replicate (operandCount (w % 256)) 0⟩
  else ⟨.frameWord, leBytes ((nbits + 7) / 8) w ++ [0, 0, 0, 0]⟩

/-- The instruction the decoder reads from a row's word, every bit above `nbits` being 0. -/
def decodeTableWord (nbits w : Nat) : Option Instr :=
  match decode (tablePacket nbits w) with
  | .ok i => some i
  | .error _ => none

end Sys2Proof
end

