-- ==== Sys2Proof/Machine/State.lean ====
section
/-! DEFINITION. The state of one core instance: the record S of 10_state.md R20, and the model's own fields
for what R20 makes arguments, results and configuration (`cfg`, `lastNow`, `port`, `out`). Plain data. The
core has no memory (R60). -/

namespace Sys2Proof.Machine

/-- The three command channels (R24). -/
inductive Channel where
  | door | light | turn
deriving DecidableEq, Repr

/-- The five TX channels (R36). -/
inductive TxChannel where
  | doorStatus | lightingStatus | turnStatus | faultStatus | heartbeat
deriving DecidableEq, Repr

/-- A channel's validation record (R24, R25). -/
structure ValRec where
  seeded      : Bool
  lastCounter : Nib
  lastCmdTime : Time
  lastResult  : Byte
deriving DecidableEq, Repr

/-- The three validation records (R24). -/
structure ValRecs where
  door  : ValRec
  light : ValRec
  turn  : ValRec
deriving DecidableEq, Repr

/-- Door Lock State (R26). -/
inductive LockState where
  | unlocked | locked | locking | unlocking
deriving DecidableEq, Repr

/-- `S.lock[0..3]` (R26). -/
structure Locks where
  d0 : LockState
  d1 : LockState
  d2 : LockState
  d3 : LockState
deriving DecidableEq, Repr

/-- `headlight_mode` (R28). -/
inductive HeadlightMode where
  | off | on | auto
deriving DecidableEq, Repr

/-- `headlight_output` (R28). -/
inductive HeadlightOutput where
  | off | on | auto | highBeam
deriving DecidableEq, Repr

/-- `interior_mode` (R28). -/
inductive InteriorMode where
  | off | on | auto
deriving DecidableEq, Repr

/-- `turn_mode` (R30). -/
inductive TurnMode where
  | off | left | right | hazard
deriving DecidableEq, Repr

/-- A Fault Record (R32); `count` is the spec's `occurrence_count`, an unbounded natural number (D9). -/
structure FaultRecord where
  code      : Byte
  firstSeen : Time
  lastSeen  : Time
  count     : Nat
deriving DecidableEq, Repr

/-- `S.tx_ctr[ch]` (R36). -/
structure TxCtrs where
  doorStatus     : Nib
  lightingStatus : Nib
  turnStatus     : Nib
  faultStatus    : Nib
  heartbeat      : Nib
deriving DecidableEq, Repr

/-- The result an operation returns (the `result` column of 20_memory.md R62). -/
inductive OpResult where
  /-- No result. -/
  | none
  /-- A result code (ROUTE). -/
  | code (c : Byte)
  /-- A bit. -/
  | bit (b : Bool)
  /-- An integer (FAULT_COUNT). -/
  | int (n : Nat)
  /-- A pair of bytes (FAULT_FLAGS). -/
  | bytes (b1 b2 : Byte)
  /-- A byte. -/
  | byte (b : Byte)
  /-- A nibble. -/
  | nib (n : Nib)
deriving DecidableEq, Repr

/-- What the last performed operation gave the environment: its result and its output frames, in the order
it emitted them (R62, R72; log entry 6). -/
structure OpOut where
  result : OpResult
  frames : List Frame
deriving DecidableEq, Repr

/-- The state of one core instance (R20). -/
@[ext]
structure State where
  /-- The validation records (R24). -/
  vr : ValRecs
  /-- The door lock states (R26). -/
  lock : Locks
  /-- The latched door-open sensor inputs (R27). -/
  doorOpen : Nib
  /-- R28. -/
  headlightMode : HeadlightMode
  /-- R28, the spec's `high_beam_flag`. -/
  highBeam : Bool
  /-- R28. -/
  headlightOutput : HeadlightOutput
  /-- R28. -/
  interiorMode : InteriorMode
  /-- R28. -/
  interiorBrightness : Nib
  /-- R28. -/
  ambientSample : Byte
  /-- R28. -/
  ambientTime : Time
  /-- R30. -/
  turnMode : TurnMode
  /-- R30. -/
  lampOn : Bool
  /-- R30. -/
  flashCount : Byte
  /-- R30. -/
  lastToggle : Time
  /-- R32, the spec's `ft.records`, in rising order of code (log entry 9). -/
  records : List FaultRecord
  /-- R33, the spec's `ft.flags`. -/
  flags : BitVec 16
  /-- R34, the spec's `ft.most_recent`. -/
  mostRecent : Byte
  /-- R34, the spec's `ft.recent_time`. -/
  recentTime : Time
  /-- R36. -/
  txCtr : TxCtrs
  /-- R37. -/
  lastFast : Time
  /-- R37. -/
  lastStatus : Time
  /-- R37. -/
  lastSlow : Time
  /-- The configuration record of R11 (log entry 4). -/
  cfg : Config
  /-- The greatest `now` presented so far, for U3 (log entry 5). -/
  lastNow : Time
  /-- The operations presented and not yet performed (R62, R67; log entry 1). -/
  port : List Packet
  /-- The result and frames of the last operation (R62; log entry 6). -/
  out : OpOut
deriving DecidableEq, Repr

/-- Nothing raises a fault: "Nothing in the core is treated as stuck or as fault" (93_implementation_defined.md),
"The core never halts" (R336). -/
inductive Fault where
deriving DecidableEq, Repr

/-- The presented operations the spec says a model refuses (93_implementation_defined.md section 1). -/
inductive Refusal where
  /-- Raised by `exec` for a row without a meaning; no arm does. Safe. -/
  | notModelled (mnemonic : String)
  /-- U1: CHECKSUM or VALIDATE_CHECKSUM of an empty byte sequence; raised by their meanings. Safe. -/
  | emptyBytes
  /-- U2: FAULT_REPORT of code 0; raised by its meaning. Safe. -/
  | zeroFaultCode
  /-- U3: a `now` below an earlier one; raised by every operation that takes a time. Safe. -/
  | clockBackwards
  /-- U4: an OPSEL that names no operation; raised by `step` where decoding fails. Safe. -/
  | noSuchOperation
  /-- U5: a value outside the Frame type; raised by `step` where decoding fails and by ROUTE. Safe. -/
  | notAFrame
  /-- A packet whose operand bytes are not those of its operation (log entry 17); raised by `step`. Safe. -/
  | malformedOperands
  /-- U7: a configuration that breaks R10; raised by `step`. Safe. -/
  | illegalConfig
deriving DecidableEq, Repr

/-- The refusal of a packet that does not decode. -/
def Refusal.ofDecodeError : DecodeError → Refusal
  | .noSuchOperation => .noSuchOperation
  | .notAFrame => .notAFrame
  | .malformedOperands => .malformedOperands

/-- A validation record after reset (R41). -/
def ValRec.reset : ValRec where
  seeded := false
  lastCounter := 0
  lastCmdTime := 0
  lastResult := resOk

/-- The reset of R320 for an instance with configuration `c`: every field at the value of R41; nothing
presented, nothing returned yet. -/
def State.resetWith (c : Config) : State where
  vr := ⟨ValRec.reset, ValRec.reset, ValRec.reset⟩
  lock := ⟨.unlocked, .unlocked, .unlocked, .unlocked⟩
  doorOpen := 0
  headlightMode := .off
  highBeam := false
  headlightOutput := .off
  interiorMode := .off
  interiorBrightness := 0
  ambientSample := 0
  ambientTime := 0
  turnMode := .off
  lampOn := false
  flashCount := 0
  lastToggle := 0
  records := []
  flags := 0
  mostRecent := 0
  recentTime := 0
  txCtr := ⟨0, 0, 0, 0, 0⟩
  lastFast := 0
  lastStatus := 0
  lastSlow := 0
  cfg := c
  lastNow := 0
  port := []
  out := ⟨.none, []⟩

/-- The machine right after reset (R41, R320), with the configuration CFG_REF of R10 (log entry 4). -/
def State.reset : State := State.resetWith cfgRef

end Sys2Proof.Machine
end

