-- ==== Sys2Proof/Machine/Flags.lean ====
section
/-! DEFINITION. Every flag computation of the spec: the fault flag word (10_state.md R33, 41_fault_tracker.md
R140), its two bytes (R147), the lock mask and the lamp mask of the status frames (R91), and the numbers
under which enumerations are rendered (R28, R30, R218, R247). -/

namespace Sys2Proof.Machine

/-- R140: the flag bit of a code: "`code` when `code <= 15` and `none` otherwise". -/
def flagbit (code : Byte) : Option Nat := if code.toNat ≤ 15 then some code.toNat else none

/-- The flag word with the bit of `code` set, where the code has one (R141). -/
def setFlag (flags : BitVec 16) (code : Byte) : BitVec 16 :=
  match flagbit code with
  | some k => flags ||| (1#16 <<< k)
  | none => flags

/-- The flag word with the bit of `code` cleared, where the code has one (R143). -/
def clearFlag (flags : BitVec 16) (code : Byte) : BitVec 16 :=
  match flagbit code with
  | some k => flags &&& ~~~(1#16 <<< k)
  | none => flags

/-- R33: `flags1`, bits 7:0. -/
def flags1 (flags : BitVec 16) : Byte := flags.extractLsb' 0 8

/-- R33: `flags2`, bits 15:8. -/
def flags2 (flags : BitVec 16) : Byte := flags.extractLsb' 8 8

/-- R91: "bit *i* set iff door *i* is `Locked`". -/
def lockMask (l : Locks) : Byte :=
  maskByte (l.d0 == .locked) (l.d1 == .locked) (l.d2 == .locked) (l.d3 == .locked)

/-- R31: the left lamp output. -/
def leftLit (m : TurnMode) (lampOn : Bool) : Bool :=
  match m with
  | .left | .hazard => lampOn
  | .off | .right => false

/-- R31: the right lamp output. -/
def rightLit (m : TurnMode) (lampOn : Bool) : Bool :=
  match m with
  | .right | .hazard => lampOn
  | .off | .left => false

/-- R91, R247: `{0b000000, right, left}`. -/
def lampMask (m : TurnMode) (lampOn : Bool) : Byte :=
  maskByte (leftLit m lampOn) (rightLit m lampOn) false false

/-- R28, R218: Off 0, On 1, Auto 2, HighBeam 3. -/
def headlightOutputCode : HeadlightOutput → Byte
  | .off => 0
  | .on => 1
  | .auto => 2
  | .highBeam => 3

/-- R28, R92: the interior mode takes its command code. -/
def interiorModeCode : InteriorMode → BitVec 2
  | .off => codeIntOff
  | .on => codeIntOn
  | .auto => codeIntAuto

/-- R30, R247: Off 0, Left 1, Right 2, Hazard 3. -/
def turnModeCode : TurnMode → Byte
  | .off => 0
  | .left => 1
  | .right => 2
  | .hazard => 3

end Sys2Proof.Machine
end

