-- ==== Sys2Proof/Machine/Ops.lean ====
section
/-! DEFINITION. The named operations every meaning is made of: access to the indexed fields, the presented
operation's frame (clock, result, output frames), the Fault Tracker's updates, command validation with the
rejection entry and the accept bookkeeping (42_command_validation.md), and the common transmit tail (R274). -/

namespace Sys2Proof.Machine

/-! ## Indexed fields -/

/-- `S.vr[ch]` (R24). -/
def ValRecs.get (v : ValRecs) : Channel → ValRec
  | .door => v.door
  | .light => v.light
  | .turn => v.turn

/-- `S.vr[ch] <- r`: only the channel's own record is written (R40). -/
def ValRecs.put (v : ValRecs) (ch : Channel) (r : ValRec) : ValRecs :=
  match ch with
  | .door => { v with door := r }
  | .light => { v with light := r }
  | .turn => { v with turn := r }

/-- `S.lock[i]` (R26). -/
def Locks.get (l : Locks) (i : DoorNo) : LockState :=
  if i = 0 then l.d0 else if i = 1 then l.d1 else if i = 2 then l.d2 else l.d3

/-- `S.lock[i] <- f S.lock[i]` for the one door `i`. -/
def Locks.modify (l : Locks) (i : DoorNo) (f : LockState → LockState) : Locks :=
  if i = 0 then { l with d0 := f l.d0 }
  else if i = 1 then { l with d1 := f l.d1 }
  else if i = 2 then { l with d2 := f l.d2 }
  else { l with d3 := f l.d3 }

/-- `for i in 0..3: S.lock[i] <- f S.lock[i]`. -/
def Locks.mapAll (l : Locks) (f : LockState → LockState) : Locks := ⟨f l.d0, f l.d1, f l.d2, f l.d3⟩

/-- `S.tx_ctr[ch]` (R36). -/
def TxCtrs.get (t : TxCtrs) : TxChannel → Nib
  | .doorStatus => t.doorStatus
  | .lightingStatus => t.lightingStatus
  | .turnStatus => t.turnStatus
  | .faultStatus => t.faultStatus
  | .heartbeat => t.heartbeat

/-- `S.tx_ctr[ch] <- (S.tx_ctr[ch] + 1) mod 16`: only the channel's own counter is written (R274). -/
def TxCtrs.bump (t : TxCtrs) (ch : TxChannel) : TxCtrs :=
  match ch with
  | .doorStatus => { t with doorStatus := t.doorStatus + 1 }
  | .lightingStatus => { t with lightingStatus := t.lightingStatus + 1 }
  | .turnStatus => { t with turnStatus := t.turnStatus + 1 }
  | .faultStatus => { t with faultStatus := t.faultStatus + 1 }
  | .heartbeat => { t with heartbeat := t.heartbeat + 1 }

/-! ## The presented operation -/

/-- R15: `now − t` on natural numbers; defined for `now >= t`, which the clock gives (log entry 8). -/
def elapsed (now t : Time) : Nat := now.toNat - t.toNat

/-- The state an operation starts from: nothing returned and nothing emitted yet (R62). -/
def State.begun (s : State) : State := { s with out := ⟨.none, []⟩ }

/-- `return v` (R14). -/
def State.returning (s : State) (v : OpResult) : State := { s with out := { s.out with result := v } }

/-- `emit f` (R14, R72). -/
def State.emitting (s : State) (f : Frame) : State :=
  { s with out := { s.out with frames := s.out.frames ++ [f] } }

/-- An operation without a time: one atomic change of state (R66). -/
def perform (f : State → State) (s : State) : Host.Outcome State Fault Refusal :=
  .next (f s.begun)

/-- An operation presented at `now`: refused where the clock has gone backwards (R326, U3), else one atomic
change of state (R66). -/
def performAt (now : Time) (f : State → State) (s : State) : Host.Outcome State Fault Refusal :=
  if s.lastNow ≤ now then .next (f { s.begun with lastNow := now }) else .refused .clockBackwards

/-! ## The Fault Tracker (41_fault_tracker.md) -/

/-- The record of a code, if present (R145). -/
def findRecord (c : Byte) : List FaultRecord → Option FaultRecord
  | [] => none
  | r :: rs => if r.code = c then some r else findRecord c rs

/-- A repeated report of a code (R141): its occurrence count and its last time; `first_seen` is kept. -/
def bumpRecord (c : Byte) (now : Time) : List FaultRecord → List FaultRecord
  | [] => []
  | r :: rs =>
    if r.code = c then { r with lastSeen := now, count := r.count + 1 } :: rs
    else r :: bumpRecord c now rs

/-- A new record put into a list in rising order of code (log entry 9). -/
def insertRecord (n : FaultRecord) : List FaultRecord → List FaultRecord
  | [] => [n]
  | r :: rs => if n.code < r.code then n :: r :: rs else r :: insertRecord n rs

/-- The records without that of a code (R143). -/
def removeRecord (c : Byte) : List FaultRecord → List FaultRecord
  | [] => []
  | r :: rs => if r.code = c then removeRecord c rs else r :: removeRecord c rs

/-- R141, what every stored report writes beside the record: the flag bit of its code, the most recent code
and its time. -/
def noteReport (code : Byte) (now : Time) (s : State) : State :=
  { s with flags := setFlag s.flags code, mostRecent := code, recentTime := now }

/-- FAULT_REPORT (R141): a present code is bumped; a new one is inserted while capacity remains; else
nothing at all is written. -/
def reportFault (code : Byte) (now : Time) (s : State) : State :=
  if (findRecord code s.records).isSome then
    noteReport code now { s with records := bumpRecord code now s.records }
  else if s.records.length < s.cfg.faultCapacity then
    noteReport code now { s with records := insertRecord ⟨code, now, now, 1⟩ s.records }
  else s

/-- FAULT_CLEAR (R143): the record and its flag bit only; nothing where the code is absent. -/
def clearFault (code : Byte) (s : State) : State :=
  if (findRecord code s.records).isSome then
    { s with records := removeRecord code s.records, flags := clearFlag s.flags code }
  else s

/-- FAULT_CLEAR_ALL (R144). -/
def clearAllFaults (s : State) : State := { s with records := [], flags := 0 }

/-- FAULT_IS_ACTIVE (R145). -/
def faultActive (code : Byte) (s : State) : Bool := (findRecord code s.records).isSome

/-- `FAULT_COUNT() mod 256` (R94). -/
def faultCountByte (s : State) : Byte := BitVec.ofNat 8 s.records.length

/-! ## Command validation (42_command_validation.md) -/

/-- R166, the core's one exception entry: the result is recorded and returned, the fault, if any, is
reported. -/
def reject (ch : Channel) (res : Byte) (fc : Option Byte) (now : Time) (s : State) : State :=
  let s := { s with vr := s.vr.put ch { s.vr.get ch with lastResult := res } }
  let s := match fc with
    | some c => reportFault c now s
    | none => s
  s.returning (.code res)

/-- R167, the accept bookkeeping. -/
def accept (ch : Channel) (ctr : Nib) (now : Time) (s : State) : State :=
  { s with vr := s.vr.put ch ⟨true, ctr, now, resOk⟩ }.returning (.code resOk)

/-- What the channel's own steps 4 to 6 give (R165): a rejection, with the fault to report, or the state
with the command applied. -/
inductive Steps where
  | rejected (res : Byte) (fc : Option Byte)
  | applied (s : State)

/-- R160 from step 2 on, for a frame of the right length: checksum (R162), rolling counter (R164), the
channel's steps, accept. -/
def validate (ch : Channel) (op arg vc ck : Byte) (now : Time) (steps : State → Steps) (s : State) : State :=
  if validateChecksum [op, arg, vc] ck = false then
    reject ch resChecksumError (some fcInvalidChecksum) now s
  else if (s.vr.get ch).seeded = true ∧
      validateCounter (extractCounter vc) (s.vr.get ch).lastCounter = false then
    reject ch resCounterError (some fcInvalidCounter) now s
  else
    match steps s with
    | .rejected res fc => reject ch res fc now s
    | .applied s' => accept ch (extractCounter vc) now s'

/-- HANDLE (R160): the length first (R161), then `validate`. -/
def handle (ch : Channel) (f : Frame) (now : Time) (steps : Byte → Byte → State → Steps) (s : State) :
    State :=
  match f.data with
  | [op, arg, vc, ck] => validate ch op arg vc ck now (steps op arg) s
  | _ => reject ch resInvalidCommand (some fcInvalidLength) now s

/-- The meaning of a command frame of an RX4 row, brought at `now`: its length is right by its form (R81),
`validate` does the rest (log entry 11). -/
def command (ch : Channel) (op arg : Byte) (ver ctr : Nib) (ck : Byte) (now : Time)
    (steps : State → Steps) (s : State) : Host.Outcome State Fault Refusal :=
  performAt now (validate ch op arg (buildVc ver ctr) ck now steps) s

/-! ## The transmit tail -/

/-- TxFrame (R274): ver/ctr byte, checksum over all bytes before it, one step of the channel's counter; the
frame carries the counter's value before the step. -/
def sendFrame (ch : TxChannel) (id : Ident) (b : List Byte) (s : State) : State :=
  let body := b ++ [buildVc schemaVersion (s.txCtr.get ch)]
  { s with txCtr := s.txCtr.bump ch }.emitting ⟨id, body ++ [checksum body]⟩

end Sys2Proof.Machine
end

