-- ==== Sys2Proof/Machine/CodecPort.lean ====
section
/-! DEFINITION. The six codec functions as port operations (40_codec.md R121 to R126): "they read no field of
`S`, write none, emit no frame" (R120); the result is returned. -/

namespace Sys2Proof.Machine

/-- CHECKSUM (R121); the empty sequence is refused (U1). -/
def execChecksum (bytes : List Byte) (s : State) : Host.Outcome State Fault Refusal :=
  match bytes with
  | [] => .refused .emptyBytes
  | b :: bs => perform (fun s => s.returning (.byte (checksum (b :: bs)))) s

/-- VALIDATE_CHECKSUM (R122); the empty sequence is refused (U1). -/
def execValidateChecksum (claimed : Byte) (bytes : List Byte) (s : State) :
    Host.Outcome State Fault Refusal :=
  match bytes with
  | [] => .refused .emptyBytes
  | b :: bs => perform (fun s => s.returning (.bit (validateChecksum (b :: bs) claimed))) s

/-- BUILD_VC (R123). -/
def execBuildVc (version counter : Nib) (s : State) : Host.Outcome State Fault Refusal :=
  perform (fun s => s.returning (.byte (buildVc version counter))) s

/-- EXTRACT_VERSION (R124). -/
def execExtractVersion (byte : Byte) (s : State) : Host.Outcome State Fault Refusal :=
  perform (fun s => s.returning (.nib (extractVersion byte))) s

/-- EXTRACT_COUNTER (R125). -/
def execExtractCounter (byte : Byte) (s : State) : Host.Outcome State Fault Refusal :=
  perform (fun s => s.returning (.nib (extractCounter byte))) s

/-- VALIDATE_COUNTER (R126). -/
def execValidateCounter (received last : Nib) (s : State) : Host.Outcome State Fault Refusal :=
  perform (fun s => s.returning (.bit (validateCounter received last))) s

end Sys2Proof.Machine
end

