-- ==== Sys2Proof/Machine/FaultTracker.lean ====
section
/-! DEFINITION. The seven operations of the Fault Tracker at the port (41_fault_tracker.md R141 to R148). -/

namespace Sys2Proof.Machine

/-- FAULT_REPORT (R141); code 0 is refused (U2). -/
def execFaultReport (code : Byte) (now : Time) (s : State) : Host.Outcome State Fault Refusal :=
  if code = 0 then .refused .zeroFaultCode else performAt now (reportFault code now) s

/-- FAULT_CLEAR (R143). -/
def execFaultClear (code : Byte) (s : State) : Host.Outcome State Fault Refusal :=
  perform (clearFault code) s

/-- FAULT_CLEAR_ALL (R144). -/
def execFaultClearAll (s : State) : Host.Outcome State Fault Refusal :=
  perform clearAllFaults s

/-- FAULT_IS_ACTIVE (R145). -/
def execFaultIsActive (code : Byte) (s : State) : Host.Outcome State Fault Refusal :=
  perform (fun s => s.returning (.bit (faultActive code s))) s

/-- FAULT_COUNT (R146). -/
def execFaultCount (s : State) : Host.Outcome State Fault Refusal :=
  perform (fun s => s.returning (.int s.records.length)) s

/-- FAULT_FLAGS (R147). -/
def execFaultFlags (s : State) : Host.Outcome State Fault Refusal :=
  perform (fun s => s.returning (.bytes (flags1 s.flags) (flags2 s.flags))) s

/-- FAULT_MOST_RECENT (R148). -/
def execFaultMostRecent (s : State) : Host.Outcome State Fault Refusal :=
  perform (fun s => s.returning (.byte s.mostRecent)) s

end Sys2Proof.Machine
end

