-- ==== Sys2Proof/Machine/Fetch.lean ====
section
/-! DEFINITION. Taking the next presented operation from the port (20_memory.md R62, R67; log entry 1). The
core fetches no instructions (10_state.md R22): what comes next is what the environment presents next. -/

namespace Sys2Proof.Machine

/-- The next presented operation and the state once it is taken; none where nothing is presented. -/
def takePresented (s : State) : Option (Packet × State) :=
  match s.port with
  | [] => none
  | p :: rest => some (p, { s with port := rest })

/-- `s` with an operation presented before all others. -/
def presentFirst (p : Packet) (s : State) : State := { s with port := p :: s.port }

end Sys2Proof.Machine
end

