-- ==== Sys2Proof/Machine/Door.lean ====
section
/-! DEFINITION. The door channel (43_door.md R180 to R193). -/

namespace Sys2Proof.Machine

/-! ## Shared operations -/

/-- R183: `lock_drive`, which skips a door already `Locked`. -/
def lockDrive : LockState → LockState
  | .locked => .locked
  | .unlocked | .locking | .unlocking => .locking

/-- R183: `unlock_drive`, which skips a door already `Unlocked`. -/
def unlockDrive : LockState → LockState
  | .unlocked => .unlocked
  | .locked | .locking | .unlocking => .unlocking

/-- R190: a transient state advances to its end state. -/
def advanceLock : LockState → LockState
  | .locking => .locked
  | .unlocking => .unlocked
  | .locked => .locked
  | .unlocked => .unlocked

/-- Step 6 of an "all doors" command (R180). -/
def driveAll (drive : LockState → LockState) (s : State) : Steps :=
  .applied { s with lock := s.lock.mapAll drive }

/-- Steps 5 and 6 of a single-door command: the door-select check, which names no fault (R182, C1), then the
drive of the one door (R180). -/
def driveSelected (drive : LockState → LockState) (doorId : Byte) (s : State) : Steps :=
  match doorSelect doorId with
  | some i => .applied { s with lock := s.lock.modify i drive }
  | none => .rejected resInvalidCommand none

/-- Steps 4 to 6 of the door channel (R180, R181). -/
def doorSteps (op arg : Byte) (s : State) : Steps :=
  if op = cmdLockAll then driveAll lockDrive s
  else if op = cmdUnlockAll then driveAll unlockDrive s
  else if op = cmdLockSingle then driveSelected lockDrive arg s
  else if op = cmdUnlockSingle then driveSelected unlockDrive arg s
  else .rejected resInvalidCommand (some fcInvalidCommand)

/-- The handler of the door channel (R180). -/
def handleDoor (f : Frame) (now : Time) (s : State) : State := handle .door f now doorSteps s

/-- DOOR_TICK (R190). -/
def doorTick (s : State) : State := { s with lock := s.lock.mapAll advanceLock }

/-- RENDER_DOOR_STATUS (R193): locks, opens, result, fault count. -/
def renderDoorStatus (s : State) : State :=
  sendFrame .doorStatus idDoorStatus
    [lockMask s.lock, s.doorOpen.setWidth 8, s.vr.door.lastResult, faultCountByte s] s

/-! ## Meanings -/

/-- DOOR.LOCK_ALL (R184). -/
def execDoorLockAll (doorId : Byte) (ver ctr : Nib) (ck : Byte) (now : Time) (s : State) :
    Host.Outcome State Fault Refusal :=
  command .door cmdLockAll doorId ver ctr ck now (driveAll lockDrive) s

/-- DOOR.UNLOCK_ALL (R185). -/
def execDoorUnlockAll (doorId : Byte) (ver ctr : Nib) (ck : Byte) (now : Time) (s : State) :
    Host.Outcome State Fault Refusal :=
  command .door cmdUnlockAll doorId ver ctr ck now (driveAll unlockDrive) s

/-- DOOR.LOCK_SINGLE (R186). -/
def execDoorLockSingle (doorId : Byte) (ver ctr : Nib) (ck : Byte) (now : Time) (s : State) :
    Host.Outcome State Fault Refusal :=
  command .door cmdLockSingle doorId ver ctr ck now (driveSelected lockDrive doorId) s

/-- DOOR.UNLOCK_SINGLE (R187). -/
def execDoorUnlockSingle (doorId : Byte) (ver ctr : Nib) (ck : Byte) (now : Time) (s : State) :
    Host.Outcome State Fault Refusal :=
  command .door cmdUnlockSingle doorId ver ctr ck now (driveSelected unlockDrive doorId) s

/-- DOOR_TICK at the port (R190). -/
def execDoorTick (s : State) : Host.Outcome State Fault Refusal := perform doorTick s

/-- SET_DOOR_OPEN (R192). -/
def execSetDoorOpen (mask : Nib) (s : State) : Host.Outcome State Fault Refusal :=
  perform (fun s => { s with doorOpen := mask }) s

/-- RENDER_DOOR_STATUS at the port (R193). -/
def execRenderDoorStatus (s : State) : Host.Outcome State Fault Refusal := perform renderDoorStatus s

end Sys2Proof.Machine
end

