-- ==== Sys2Proof/Machine/Lighting.lean ====
section
/-! DEFINITION. The lighting channel (44_lighting.md R200 to R218). -/

namespace Sys2Proof.Machine

/-! ## Shared operations -/

/-- R213: the hysteresis of mode `Auto` on the lit bit of the output the state still holds. Both comparisons
are strict. -/
def autoLit (s : State) : Bool :=
  let wasLit := s.headlightOutput != .off
  if wasLit = false ∧ s.ambientSample < s.cfg.onThreshold then true
  else if wasLit = true ∧ s.cfg.offThreshold < s.ambientSample then false
  else wasLit

/-- R212: the output the mode, the high-beam flag and, in `Auto`, the hysteresis give. -/
def computedOutput (s : State) : HeadlightOutput :=
  match s.headlightMode with
  | .off => .off
  | .on => if s.highBeam then .highBeam else .on
  | .auto => if autoLit s then (if s.highBeam then .highBeam else .auto) else .off

/-- R212: `recompute_output`, which writes the output only. -/
def recomputeOutput (s : State) : State := { s with headlightOutput := computedOutput s }

/-- `apply_headlight` (R200): "`Off`/`On`/`Auto` set `headlight_mode` directly" (R204, R208, R209),
"`HighOn`/`HighOff` set only the high-beam flag" (R210, R211). -/
def applyHeadlight (c : HeadlightCmd) (s : State) : State :=
  match c with
  | .off => { s with headlightMode := .off }
  | .on => { s with headlightMode := .on }
  | .auto => { s with headlightMode := .auto }
  | .highOn => { s with highBeam := true }
  | .highOff => { s with highBeam := false }

/-- `apply_interior` (R200): `Off` clears the brightness (R205), `On` stores it as given (R206), `Auto`
leaves it (R207). -/
def applyInterior (c : InteriorCmd) (s : State) : State :=
  match c with
  | .off => { s with interiorMode := .off, interiorBrightness := 0 }
  | .on bri => { s with interiorMode := .on, interiorBrightness := bri }
  | .auto => { s with interiorMode := .auto }

/-- Step 6 of the lighting channel: headlight, interior, recomputation last (R200, R203). -/
def applyLighting (h : HeadlightCmd) (m : InteriorCmd) (s : State) : State :=
  recomputeOutput (applyInterior m (applyHeadlight h s))

/-- Steps 4 to 6 of the lighting channel (R200): both fields are checked before either is applied. -/
def lightSteps (op arg : Byte) (s : State) : Steps :=
  match headlightCmd op with
  | none => .rejected resInvalidCommand (some fcInvalidCommand)
  | some h => match interiorCmd arg with
    | none => .rejected resInvalidCommand (some fcInvalidCommand)
    | some m => .applied (applyLighting h m s)

/-- Steps 5 and 6 under a headlight row: the headlight code is legal by the row, the interior byte is still
to be checked (R202). -/
def lightStepsHl (h : HeadlightCmd) (interior : Byte) (s : State) : Steps :=
  match interiorCmd interior with
  | none => .rejected resInvalidCommand (some fcInvalidCommand)
  | some m => .applied (applyLighting h m s)

/-- Steps 4 to 6 under an interior row: the interior mode is legal by the row, the headlight code is still to
be checked (R201). -/
def lightStepsInt (headlight : Byte) (m : InteriorCmd) (s : State) : Steps :=
  match headlightCmd headlight with
  | none => .rejected resInvalidCommand (some fcInvalidCommand)
  | some h => .applied (applyLighting h m s)

/-- The handler of the lighting channel (R200). -/
def handleLight (f : Frame) (now : Time) (s : State) : State := handle .light f now lightSteps s

/-- SET_AMBIENT (R215). -/
def setAmbient (level : Byte) (now : Time) (s : State) : State :=
  recomputeOutput { s with ambientSample := level, ambientTime := now }

/-- LIGHT_TICK (R216): the liveness check of R217, strict, then recomputation. -/
def lightTick (now : Time) (s : State) : State :=
  if s.headlightMode = .auto ∧ s.cfg.ambientTimeoutMs.toNat < elapsed now s.ambientTime then
    recomputeOutput (reportFault fcTimeout now s)
  else recomputeOutput s

/-- RENDER_LIGHT_STATUS (R218): output, interior, ambient, result. -/
def renderLightStatus (s : State) : State :=
  sendFrame .lightingStatus idLightingStatus
    [headlightOutputCode s.headlightOutput,
     interiorStatusByte s.interiorBrightness (interiorModeCode s.interiorMode),
     s.ambientSample, s.vr.light.lastResult] s

/-! ## Meanings -/

/-- LIGHT.HL_OFF (R204). -/
def execLightHlOff (interior : Byte) (ver ctr : Nib) (ck : Byte) (now : Time) (s : State) :
    Host.Outcome State Fault Refusal :=
  command .light cmdHlOff interior ver ctr ck now (lightStepsHl .off interior) s

/-- LIGHT.HL_ON (R208). -/
def execLightHlOn (interior : Byte) (ver ctr : Nib) (ck : Byte) (now : Time) (s : State) :
    Host.Outcome State Fault Refusal :=
  command .light cmdHlOn interior ver ctr ck now (lightStepsHl .on interior) s

/-- LIGHT.HL_AUTO (R209). -/
def execLightHlAuto (interior : Byte) (ver ctr : Nib) (ck : Byte) (now : Time) (s : State) :
    Host.Outcome State Fault Refusal :=
  command .light cmdHlAuto interior ver ctr ck now (lightStepsHl .auto interior) s

/-- LIGHT.HL_HIGH_ON (R210). -/
def execLightHlHighOn (interior : Byte) (ver ctr : Nib) (ck : Byte) (now : Time) (s : State) :
    Host.Outcome State Fault Refusal :=
  command .light cmdHlHighOn interior ver ctr ck now (lightStepsHl .highOn interior) s

/-- LIGHT.HL_HIGH_OFF (R211). -/
def execLightHlHighOff (interior : Byte) (ver ctr : Nib) (ck : Byte) (now : Time) (s : State) :
    Host.Outcome State Fault Refusal :=
  command .light cmdHlHighOff interior ver ctr ck now (lightStepsHl .highOff interior) s

/-- LIGHT.INT_OFF (R205): the brightness nibble and bits 3:2 are ignored. -/
def execLightIntOff (headlight : Byte) (bri : Nib) (ign : BitVec 2) (ver ctr : Nib) (ck : Byte)
    (now : Time) (s : State) : Host.Outcome State Fault Refusal :=
  command .light headlight (interiorByte bri ign codeIntOff) ver ctr ck now
    (lightStepsInt headlight .off) s

/-- LIGHT.INT_ON (R206): bits 3:2 are ignored. -/
def execLightIntOn (headlight : Byte) (bri : Nib) (ign : BitVec 2) (ver ctr : Nib) (ck : Byte)
    (now : Time) (s : State) : Host.Outcome State Fault Refusal :=
  command .light headlight (interiorByte bri ign codeIntOn) ver ctr ck now
    (lightStepsInt headlight (.on bri)) s

/-- LIGHT.INT_AUTO (R207): the brightness nibble and bits 3:2 are ignored. -/
def execLightIntAuto (headlight : Byte) (bri : Nib) (ign : BitVec 2) (ver ctr : Nib) (ck : Byte)
    (now : Time) (s : State) : Host.Outcome State Fault Refusal :=
  command .light headlight (interiorByte bri ign codeIntAuto) ver ctr ck now
    (lightStepsInt headlight .auto) s

/-- SET_AMBIENT at the port (R215). -/
def execSetAmbient (level : Byte) (now : Time) (s : State) : Host.Outcome State Fault Refusal :=
  performAt now (setAmbient level now) s

/-- LIGHT_TICK at the port (R216). -/
def execLightTick (now : Time) (s : State) : Host.Outcome State Fault Refusal :=
  performAt now (lightTick now) s

/-- RENDER_LIGHT_STATUS at the port (R218). -/
def execRenderLightStatus (s : State) : Host.Outcome State Fault Refusal := perform renderLightStatus s

end Sys2Proof.Machine
end

