-- ==== Sys2Proof/Machine/Turn.lean ====
section
/-! DEFINITION. The turn-signal channel (45_turn.md R230 to R247). -/

namespace Sys2Proof.Machine

/-! ## Shared operations -/

/-- R232: `enter(m, now)`. -/
def enterTurn (m : TurnMode) (now : Time) (s : State) : State :=
  { s with turnMode := m, lampOn := true, flashCount := 0, lastToggle := now }

/-- R232: `enter_off()`; the flash count and the toggle time stay (R238). -/
def enterOff (s : State) : State := { s with turnMode := .off, lampOn := false }

/-- TURN.OFF applied (R233): hazard is sticky. -/
def applyTurnOff (s : State) : State :=
  match s.turnMode with
  | .left | .right => enterOff s
  | .off | .hazard => s

/-- TURN.LEFT applied (R234). -/
def applyTurnLeft (now : Time) (s : State) : State :=
  match s.turnMode with
  | .off | .right => enterTurn .left now s
  | .left | .hazard => s

/-- TURN.RIGHT applied (R235). -/
def applyTurnRight (now : Time) (s : State) : State :=
  match s.turnMode with
  | .off | .left => enterTurn .right now s
  | .right | .hazard => s

/-- TURN.HAZARD_ON applied (R236). -/
def applyHazardOn (now : Time) (s : State) : State :=
  match s.turnMode with
  | .off | .left | .right => enterTurn .hazard now s
  | .hazard => s

/-- TURN.HAZARD_OFF applied (R237). -/
def applyHazardOff (s : State) : State :=
  match s.turnMode with
  | .hazard => enterOff s
  | .off | .left | .right => s

/-- `apply_turn(cmd, now)` (R230). -/
def applyTurn (c : TurnCmd) (now : Time) (s : State) : State :=
  match c with
  | .off => applyTurnOff s
  | .left => applyTurnLeft now s
  | .right => applyTurnRight now s
  | .hazardOn => applyHazardOn now s
  | .hazardOff => applyHazardOff s

/-- Steps 4 and 6 of the turn channel; the second byte is reserved and ignored (R230, R231). -/
def turnSteps (now : Time) (op _arg : Byte) (s : State) : Steps :=
  match turnCmd op with
  | none => .rejected resInvalidCommand (some fcInvalidCommand)
  | some c => .applied (applyTurn c now s)

/-- The handler of the turn channel (R230). -/
def handleTurn (f : Frame) (now : Time) (s : State) : State := handle .turn f now (turnSteps now) s

/-- R242: the duration of the current phase. -/
def flashThreshold (s : State) : Time :=
  match s.turnMode with
  | .hazard => if s.lampOn then s.cfg.hazOnMs else s.cfg.hazOffMs
  | .off | .left | .right => if s.lampOn then s.cfg.turnOnMs else s.cfg.turnOffMs

/-- R243: one flip of the lamp, counted on the rising edge (modulo 256). -/
def flipLamp (now : Time) (s : State) : State :=
  { s with
    lampOn := !s.lampOn
    lastToggle := now
    flashCount := if s.lampOn then s.flashCount else s.flashCount + 1 }

/-- TURN_TICK (R243): at most one flip, when the phase has lasted its duration. -/
def turnTick (now : Time) (s : State) : State :=
  if s.turnMode ≠ .off ∧ (flashThreshold s).toNat ≤ elapsed now s.lastToggle then flipLamp now s else s

/-- CHECK_TIMEOUT (R245): in `Left` and `Right` only (R246), strict. -/
def checkTimeout (now : Time) (s : State) : State :=
  if (s.turnMode = .left ∨ s.turnMode = .right) ∧
      s.cfg.turnIdleTimeoutMs.toNat < elapsed now s.vr.turn.lastCmdTime then
    reportFault fcTimeout now (enterOff s)
  else s

/-- RENDER_TURN_STATUS (R247): mode, lamps, flash count, result. -/
def renderTurnStatus (s : State) : State :=
  sendFrame .turnStatus idTurnStatus
    [turnModeCode s.turnMode, lampMask s.turnMode s.lampOn, s.flashCount, s.vr.turn.lastResult] s

/-! ## Meanings -/

/-- TURN.OFF (R233). -/
def execTurnOff (rsv : Byte) (ver ctr : Nib) (ck : Byte) (now : Time) (s : State) :
    Host.Outcome State Fault Refusal :=
  command .turn cmdTurnOff rsv ver ctr ck now (fun s => .applied (applyTurnOff s)) s

/-- TURN.LEFT (R234). -/
def execTurnLeft (rsv : Byte) (ver ctr : Nib) (ck : Byte) (now : Time) (s : State) :
    Host.Outcome State Fault Refusal :=
  command .turn cmdTurnLeft rsv ver ctr ck now (fun s => .applied (applyTurnLeft now s)) s

/-- TURN.RIGHT (R235). -/
def execTurnRight (rsv : Byte) (ver ctr : Nib) (ck : Byte) (now : Time) (s : State) :
    Host.Outcome State Fault Refusal :=
  command .turn cmdTurnRight rsv ver ctr ck now (fun s => .applied (applyTurnRight now s)) s

/-- TURN.HAZARD_ON (R236). -/
def execTurnHazardOn (rsv : Byte) (ver ctr : Nib) (ck : Byte) (now : Time) (s : State) :
    Host.Outcome State Fault Refusal :=
  command .turn cmdHazardOn rsv ver ctr ck now (fun s => .applied (applyHazardOn now s)) s

/-- TURN.HAZARD_OFF (R237). -/
def execTurnHazardOff (rsv : Byte) (ver ctr : Nib) (ck : Byte) (now : Time) (s : State) :
    Host.Outcome State Fault Refusal :=
  command .turn cmdHazardOff rsv ver ctr ck now (fun s => .applied (applyHazardOff s)) s

/-- TURN_TICK at the port (R243). -/
def execTurnTick (now : Time) (s : State) : Host.Outcome State Fault Refusal :=
  performAt now (turnTick now) s

/-- CHECK_TIMEOUT at the port (R245). -/
def execCheckTimeout (now : Time) (s : State) : Host.Outcome State Fault Refusal :=
  performAt now (checkTimeout now) s

/-- RENDER_TURN_STATUS at the port (R247). -/
def execRenderTurnStatus (s : State) : Host.Outcome State Fault Refusal := perform renderTurnStatus s

end Sys2Proof.Machine
end

