-- ==== Sys2Proof/Machine/Scheduler.lean ====
section
/-! DEFINITION. The dispatcher, the periodic triggers, the fault-status and heartbeat frames
(46_dispatcher_scheduler.md R260 to R274), and the five transmitted frames presented as inbound words. -/

namespace Sys2Proof.Machine

/-! ## Shared operations -/

/-- ROUTE (R260): the identifier selects the handler; any other identifier is ignored (R261). -/
def routeFrame (f : Frame) (now : Time) (s : State) : State :=
  if f.id = idDoorCmd then handleDoor f now s
  else if f.id = idLightingCmd then handleLight f now s
  else if f.id = idTurnCmd then handleTurn f now s
  else s

/-- RENDER_FAULT_STATUS (R268): flags, count, most recent code, the low 16 bits of its time. -/
def renderFaultStatus (s : State) : State :=
  sendFrame .faultStatus idFaultStatus
    [flags1 s.flags, flags2 s.flags, faultCountByte s, s.mostRecent,
     s.recentTime.extractLsb' 8 8, s.recentTime.extractLsb' 0 8] s

/-- R269: `bcm_state()`. -/
def bcmState (s : State) : Byte := if s.records.length > 0 then bcmStateFault else bcmStateNormal

/-- R270: `(now div 60000) mod 256`. -/
def uptimeMinutes (now : Time) : Byte := BitVec.ofNat 8 (now.toNat / 60000)

/-- RENDER_HEARTBEAT (R270). -/
def renderHeartbeat (now : Time) (s : State) : State :=
  sendFrame .heartbeat idHeartbeat [bcmState s, uptimeMinutes now] s

/-- R263: a trigger is due "when `elapsed(now, last) >= P`". -/
def triggerDue (now last period : Time) : Bool := decide (period.toNat ≤ elapsed now last)

/-- The fast trigger of SCHED (R264, R265). -/
def fastTrigger (now : Time) (s : State) : State :=
  if triggerDue now s.lastFast s.cfg.fastPeriodMs then
    turnTick now (lightTick now (doorTick { s with lastFast := now }))
  else s

/-- The status trigger of SCHED (R264, R266). -/
def statusTrigger (now : Time) (s : State) : State :=
  if triggerDue now s.lastStatus statusPeriodMs then
    renderTurnStatus (renderLightStatus (renderDoorStatus { s with lastStatus := now }))
  else s

/-- The slow trigger of SCHED (R264, R267). -/
def slowTrigger (now : Time) (s : State) : State :=
  if triggerDue now s.lastSlow s.cfg.slowPeriodMs then
    checkTimeout now (renderFaultStatus (renderHeartbeat now { s with lastSlow := now }))
  else s

/-- SCHED (R264): fast, status, slow, each tested on its own (R263). -/
def sched (now : Time) (s : State) : State := slowTrigger now (statusTrigger now (fastTrigger now s))

/-- What the core does with a frame of one of its own TX identifiers that comes in: nothing ("including one
that carries a TX identifier", R63, R261; log entry 10). -/
def ignoreFrame (now : Time) (s : State) : Host.Outcome State Fault Refusal :=
  performAt now (fun s => s) s

/-! ## Meanings -/

/-- ROUTE at the port (R260); more than 8 payload bytes are no Frame value (U5). -/
def execRoute (f : Frame) (now : Time) (s : State) : Host.Outcome State Fault Refusal :=
  if f.wellFormed then performAt now (routeFrame f now) s else .refused .notAFrame

/-- SCHED at the port (R264). -/
def execSched (now : Time) (s : State) : Host.Outcome State Fault Refusal := performAt now (sched now) s

/-- RENDER_FAULT_STATUS at the port (R268). -/
def execRenderFaultStatus (s : State) : Host.Outcome State Fault Refusal := perform renderFaultStatus s

/-- RENDER_HEARTBEAT at the port (R270). -/
def execRenderHeartbeat (now : Time) (s : State) : Host.Outcome State Fault Refusal :=
  performAt now (renderHeartbeat now) s

/-- An inbound DOOR_STATUS frame, identifier 0x200 (R63, R261). -/
def execDoorStatus (_locks _opens _result _faultCount _vc _ck : Byte) (now : Time) (s : State) :
    Host.Outcome State Fault Refusal := ignoreFrame now s

/-- An inbound LIGHTING_STATUS frame, identifier 0x210 (R63, R261). -/
def execLightingStatus (_out _interior _ambient _result _vc _ck : Byte) (now : Time) (s : State) :
    Host.Outcome State Fault Refusal := ignoreFrame now s

/-- An inbound TURN_STATUS frame, identifier 0x220 (R63, R261). -/
def execTurnStatus (_mode _lamps _flashCount _result _vc _ck : Byte) (now : Time) (s : State) :
    Host.Outcome State Fault Refusal := ignoreFrame now s

/-- An inbound FAULT_STATUS frame, identifier 0x230 (R63, R261). -/
def execFaultStatus (_f1 _f2 _total _recent _tsHi _tsLo _vc _ck : Byte) (now : Time) (s : State) :
    Host.Outcome State Fault Refusal := ignoreFrame now s

/-- An inbound HEARTBEAT frame, identifier 0x240 (R63, R261). -/
def execHeartbeat (_state _uptime _vc _ck : Byte) (now : Time) (s : State) :
    Host.Outcome State Fault Refusal := ignoreFrame now s

end Sys2Proof.Machine
end

