-- ==== Sys2Proof/Machine/Dispatch.lean ====
section
/-! DEFINITION. One arm for every row of spec/opcode_table.json. -/

namespace Sys2Proof.Machine

/-- The meaning of every instruction. -/
def exec (i : Instr) (s : State) : Host.Outcome State Fault Refusal :=
  match i with
  | .doorLockAll doorId ver ctr ck now => Sys2Proof.Machine.execDoorLockAll doorId ver ctr ck now s
  | .doorUnlockAll doorId ver ctr ck now => Sys2Proof.Machine.execDoorUnlockAll doorId ver ctr ck now s
  | .doorLockSingle doorId ver ctr ck now => Sys2Proof.Machine.execDoorLockSingle doorId ver ctr ck now s
  | .doorUnlockSingle doorId ver ctr ck now => Sys2Proof.Machine.execDoorUnlockSingle doorId ver ctr ck now s
  | .lightHlOff interior ver ctr ck now => Sys2Proof.Machine.execLightHlOff interior ver ctr ck now s
  | .lightHlOn interior ver ctr ck now => Sys2Proof.Machine.execLightHlOn interior ver ctr ck now s
  | .lightHlAuto interior ver ctr ck now => Sys2Proof.Machine.execLightHlAuto interior ver ctr ck now s
  | .lightHlHighOn interior ver ctr ck now => Sys2Proof.Machine.execLightHlHighOn interior ver ctr ck now s
  | .lightHlHighOff interior ver ctr ck now => Sys2Proof.Machine.execLightHlHighOff interior ver ctr ck now s
  | .lightIntOff headlight bri ign ver ctr ck now => Sys2Proof.Machine.execLightIntOff headlight bri ign ver ctr ck now s
  | .lightIntOn headlight bri ign ver ctr ck now => Sys2Proof.Machine.execLightIntOn headlight bri ign ver ctr ck now s
  | .lightIntAuto headlight bri ign ver ctr ck now => Sys2Proof.Machine.execLightIntAuto headlight bri ign ver ctr ck now s
  | .turnOff rsv ver ctr ck now => Sys2Proof.Machine.execTurnOff rsv ver ctr ck now s
  | .turnLeft rsv ver ctr ck now => Sys2Proof.Machine.execTurnLeft rsv ver ctr ck now s
  | .turnRight rsv ver ctr ck now => Sys2Proof.Machine.execTurnRight rsv ver ctr ck now s
  | .turnHazardOn rsv ver ctr ck now => Sys2Proof.Machine.execTurnHazardOn rsv ver ctr ck now s
  | .turnHazardOff rsv ver ctr ck now => Sys2Proof.Machine.execTurnHazardOff rsv ver ctr ck now s
  | .doorStatus locks opens result faultCount vc ck now => Sys2Proof.Machine.execDoorStatus locks opens result faultCount vc ck now s
  | .lightingStatus headlightOut interior ambient result vc ck now => Sys2Proof.Machine.execLightingStatus headlightOut interior ambient result vc ck now s
  | .turnStatus mode lamps flashCount result vc ck now => Sys2Proof.Machine.execTurnStatus mode lamps flashCount result vc ck now s
  | .faultStatus flags1 flags2 totalCount recentCode tsHi tsLo vc ck now => Sys2Proof.Machine.execFaultStatus flags1 flags2 totalCount recentCode tsHi tsLo vc ck now s
  | .heartbeat bcm uptimeMin vc ck now => Sys2Proof.Machine.execHeartbeat bcm uptimeMin vc ck now s
  | .route f now => Sys2Proof.Machine.execRoute f now s
  | .sched now => Sys2Proof.Machine.execSched now s
  | .doorTick => Sys2Proof.Machine.execDoorTick s
  | .lightTick now => Sys2Proof.Machine.execLightTick now s
  | .turnTick now => Sys2Proof.Machine.execTurnTick now s
  | .checkTimeout now => Sys2Proof.Machine.execCheckTimeout now s
  | .setAmbient level now => Sys2Proof.Machine.execSetAmbient level now s
  | .setDoorOpen mask => Sys2Proof.Machine.execSetDoorOpen mask s
  | .renderDoorStatus => Sys2Proof.Machine.execRenderDoorStatus s
  | .renderLightStatus => Sys2Proof.Machine.execRenderLightStatus s
  | .renderTurnStatus => Sys2Proof.Machine.execRenderTurnStatus s
  | .renderFaultStatus => Sys2Proof.Machine.execRenderFaultStatus s
  | .renderHeartbeat now => Sys2Proof.Machine.execRenderHeartbeat now s
  | .faultReport code now => Sys2Proof.Machine.execFaultReport code now s
  | .faultClear code => Sys2Proof.Machine.execFaultClear code s
  | .faultClearAll => Sys2Proof.Machine.execFaultClearAll s
  | .faultIsActive code => Sys2Proof.Machine.execFaultIsActive code s
  | .faultCount => Sys2Proof.Machine.execFaultCount s
  | .faultFlags => Sys2Proof.Machine.execFaultFlags s
  | .faultMostRecent => Sys2Proof.Machine.execFaultMostRecent s
  | .checksum bytes => Sys2Proof.Machine.execChecksum bytes s
  | .validateChecksum claimed bytes => Sys2Proof.Machine.execValidateChecksum claimed bytes s
  | .buildVc version counter => Sys2Proof.Machine.execBuildVc version counter s
  | .extractVersion byte => Sys2Proof.Machine.execExtractVersion byte s
  | .extractCounter byte => Sys2Proof.Machine.execExtractCounter byte s
  | .validateCounter received last => Sys2Proof.Machine.execValidateCounter received last s

end Sys2Proof.Machine
end

