-- ==== Sys2Proof/Machine/Step.lean ====
section
/-! DEFINITION. One step: the next presented operation, performed to completion (10_state.md R22, 20_memory.md
R66 and R67). -/

namespace Sys2Proof.Machine

/-- One step of the core. An instance whose configuration breaks R10 is refused (U7). With nothing presented
the core is idle and waits (R321, log entry 7). Else the next presented operation is taken, read and
performed. -/
def step (s : State) : Host.Outcome State Fault Refusal :=
  if s.cfg.legal then
    match takePresented s with
    | none => .next s
    | some (p, s') =>
      match decode p with
      | .ok i => exec i s'
      | .error e => .refused (Refusal.ofDecodeError e)
  else .refused .illegalConfig

/-- `s` with a row's word presented as the next operation (log entries 1 and 2). -/
def State.withFetchWord (s : State) (nbits w : Nat) : State := presentFirst (tablePacket nbits w) s

end Sys2Proof.Machine
end

