-- ==== Sys2Proof/Safety.lean ====
section
/-! DEFINITION. What claims about the core are stated in: the states a command leaves, the invariants the
spec names, the soundness of a transmitted frame, and a sequence of operations performed in order. Numbers
are written out from the spec, not taken from Machine/Codes.lean. -/

namespace Sys2Proof.Machine

/-! ## Encodings -/

/-- The operation-select number an instruction is encoded with (R105); none for a frame row. -/
def opsel (i : Instr) : Option Nat := i.operation?.map (fun o => o.1.toNat)

/-! ## States an operation leaves -/

/-- `s` once an operation without a time has returned `r` and emitted nothing. -/
def State.answering (s : State) (r : OpResult) : State := { s with out := ⟨r, []⟩ }

/-- `s` once an operation presented at `now` has returned nothing and emitted nothing. -/
def State.atTime (s : State) (now : Time) : State := { s with lastNow := now, out := ⟨.none, []⟩ }

/-- R162 to R164: a 4-byte frame on channel `ch` passes the checksum and the counter checks. -/
def State.admits (s : State) (ch : Channel) (op arg : Byte) (ver ctr : Nib) (ck : Byte) : Prop :=
  ck = 0xAA ^^^ op ^^^ arg ^^^ (ver ++ ctr) ∧
  ((s.vr.get ch).seeded = true → ctr = (s.vr.get ch).lastCounter + 1)

/-- R167: `s` after the accept bookkeeping of a command on `ch`, the subsystem aside. -/
def State.acceptedOn (s : State) (ch : Channel) (ctr : Nib) (now : Time) : State :=
  { s with vr := s.vr.put ch ⟨true, ctr, now, 0⟩, lastNow := now, out := ⟨.code 0, []⟩ }

/-- R166: `s` after a rejection on `ch` with result `res`, the fault report aside. -/
def State.rejectedOn (s : State) (ch : Channel) (res : Byte) (now : Time) : State :=
  { s with vr := s.vr.put ch { s.vr.get ch with lastResult := res }
           lastNow := now, out := ⟨.code res, []⟩ }

/-- The identifier that brings commands to a channel (R63). -/
def Channel.ident : Channel → Ident
  | .door => 0x100
  | .light => 0x110
  | .turn => 0x120

/-! ## Invariants -/

/-- The output of R212 for a mode, a flag and a lit bit. -/
def shownOutput (m : HeadlightMode) (highBeam lit : Bool) : HeadlightOutput :=
  match m, highBeam, lit with
  | .off, _, _ => .off
  | .on, true, _ => .highBeam
  | .on, false, _ => .on
  | .auto, _, false => .off
  | .auto, true, true => .highBeam
  | .auto, false, true => .auto

/-- The lit bit of R213: `wasLit` the output's, `a` the sample, `on` and `off` the thresholds. -/
def litAfter (wasLit : Bool) (a on off : Byte) : Bool :=
  if wasLit then decide (a ≤ off) else decide (a < on)

/-- R29 (a) to (d). -/
def State.lightingInv (s : State) : Prop :=
  (s.headlightMode = .off → s.headlightOutput = .off) ∧
  (s.headlightMode = .on → s.headlightOutput = if s.highBeam then .highBeam else .on) ∧
  (s.headlightOutput = .highBeam → s.highBeam = true) ∧
  (s.headlightMode = .auto → s.headlightOutput = .off ∨
    s.headlightOutput = if s.highBeam then .highBeam else .auto)

/-- R216, last sentence: "the output already equals what recomputation gives". -/
def State.outputSettled (s : State) : Prop :=
  s.headlightOutput = shownOutput s.headlightMode s.highBeam
    (litAfter (s.headlightOutput != .off) s.ambientSample s.cfg.onThreshold s.cfg.offThreshold)

/-- R31 and its last sentence: in `Off` the lamp bit is 0 and both lamp outputs are false. -/
def State.turnInv (s : State) : Prop :=
  s.turnMode = .off → s.lampOn = false

/-- The list of records is in strictly rising order of code (log entry 9). -/
def recordsRising (rs : List FaultRecord) : Prop := rs.Pairwise (fun a b => a.code < b.code)

/-- R35 (a) to (d), with the order of the list. -/
def State.trackerInv (s : State) : Prop :=
  s.records.length ≤ s.cfg.faultCapacity ∧
  (∀ c : Byte, 1 ≤ c.toNat → c.toNat ≤ 15 → s.flags.getLsbD c.toNat = faultActive c s) ∧
  s.flags.getLsbD 0 = false ∧
  (∀ r ∈ s.records, r.code ≠ 0) ∧
  recordsRising s.records

/-- R326: "every stored time `t` is an earlier `now` or 0". -/
def State.clockInv (s : State) : Prop :=
  s.vr.door.lastCmdTime ≤ s.lastNow ∧ s.vr.light.lastCmdTime ≤ s.lastNow ∧
  s.vr.turn.lastCmdTime ≤ s.lastNow ∧ s.ambientTime ≤ s.lastNow ∧ s.lastToggle ≤ s.lastNow ∧
  s.recentTime ≤ s.lastNow ∧ s.lastFast ≤ s.lastNow ∧ s.lastStatus ≤ s.lastNow ∧
  s.lastSlow ≤ s.lastNow ∧
  (∀ r ∈ s.records, r.firstSeen ≤ s.lastNow ∧ r.lastSeen ≤ s.lastNow)

/-! ## Transmitted frames -/

/-- The identifier of a TX channel (R63). -/
def TxChannel.ident : TxChannel → Ident
  | .doorStatus => 0x200
  | .lightingStatus => 0x210
  | .turnStatus => 0x220
  | .faultStatus => 0x230
  | .heartbeat => 0x240

/-- The length of a TX channel's frames (R63). -/
def TxChannel.length : TxChannel → Nat
  | .doorStatus | .lightingStatus | .turnStatus => 6
  | .faultStatus => 8
  | .heartbeat => 4

/-- R274: a transmitted frame of channel `ch` that carries counter `ctr`: its identifier, its length, the
ver/ctr byte `{1, ctr}` and last the checksum over all bytes before it. -/
def soundFrame (f : Frame) (ch : TxChannel) (ctr : Nib) : Prop :=
  ∃ body : List Byte,
    f = ⟨ch.ident, body ++ [1#4 ++ ctr, (body ++ [1#4 ++ ctr]).foldl (· ^^^ ·) 0xAA]⟩ ∧
    body.length + 2 = ch.length

/-! ## Sequences of operations -/

/-- The operations of a list performed in order (R67): the last state and all emitted frames; none where one
is refused. -/
def performAll : List Instr → State → Option (State × List Frame)
  | [], s => some (s, [])
  | i :: is, s =>
    match exec i s with
    | .next t =>
      match performAll is t with
      | some (u, fs) => some (u, t.out.frames ++ fs)
      | none => none
    | .fault _ => none
    | .refused _ => none

/-- The operations the due triggers of a SCHED at `now` invoke, in the order of R264. -/
def dueOperations (now : Time) (s : State) : List Instr :=
  (if s.cfg.fastPeriodMs.toNat ≤ now.toNat - s.lastFast.toNat then
    [.doorTick, .lightTick now, .turnTick now] else []) ++
  (if 100 ≤ now.toNat - s.lastStatus.toNat then
    [.renderDoorStatus, .renderLightStatus, .renderTurnStatus] else []) ++
  (if s.cfg.slowPeriodMs.toNat ≤ now.toNat - s.lastSlow.toNat then
    [.renderHeartbeat now, .renderFaultStatus, .checkTimeout now] else [])

end Sys2Proof.Machine
end

