-- ==== Sys2Proof/Certificates/Slice0/Obligations.lean ====
section
/-! DEFINITION. The statements for the provers. Each docstring names the rules of spec/ it rests on; numbers
are written out from the spec. -/

open Sys2Proof Sys2Proof.Machine

/-! ## Reset and the step -/

/-- R41: every row of the reset table, whatever the configuration; the machine the host runs is reset so. -/
def Obligations.ResetHoldsTheTableValues : Prop :=
  (∃ c, State.reset = State.resetWith c) ∧
  ∀ (c : Config) (s : State), s = State.resetWith c →
    (∀ ch, s.vr.get ch = ⟨false, 0, 0, 0⟩) ∧
    (∀ i, s.lock.get i = .unlocked) ∧ s.doorOpen = 0 ∧
    s.headlightMode = .off ∧ s.highBeam = false ∧ s.headlightOutput = .off ∧
    s.interiorMode = .off ∧ s.interiorBrightness = 0 ∧ s.ambientSample = 0 ∧ s.ambientTime = 0 ∧
    s.turnMode = .off ∧ s.lampOn = false ∧ s.flashCount = 0 ∧ s.lastToggle = 0 ∧
    s.records = [] ∧ s.flags = 0 ∧ s.mostRecent = 0 ∧ s.recentTime = 0 ∧
    (∀ ch, s.txCtr.get ch = 0) ∧ s.lastFast = 0 ∧ s.lastStatus = 0 ∧ s.lastSlow = 0

/-- The invariants of R29, R31, R35 and R326 hold right after reset (they are `[derived]` in the spec). -/
def Obligations.ResetMeetsEveryInvariant : Prop :=
  ∀ c : Config, c.legal = true →
    (State.resetWith c).lightingInv ∧ (State.resetWith c).outputSettled ∧
    (State.resetWith c).turnInv ∧ (State.resetWith c).trackerInv ∧ (State.resetWith c).clockInv

/-- R62, R66, R67: the step takes the operation presented first and performs exactly it. How an operation
stands at the port is the model's (log entries 1 and 2). -/
def Obligations.StepRunsThePresentedOperation : Prop :=
  ∀ (s : State) (p : Packet) (rest : List Packet) (i : Instr),
    s.cfg.legal = true → s.port = p :: rest → decode p = .ok i →
    step s = exec i { s with port := rest }

/-- R321: the core "is idle and waits" with nothing presented (`[derived]`; log entry 7), and U7: a
configuration that breaks R10 is refused (log entry 14). -/
def Obligations.StepIdlesOrRefusesTheConfiguration : Prop :=
  ∀ s : State,
    (s.cfg.legal = true → s.port = [] → step s = .next s) ∧
    (s.cfg.legal = false → step s = .refused .illegalConfig)

/-! ## Encoding -/

/-- R105: the OPSEL number of every port operation, and the values that name none. -/
def Obligations.OperationSelectNumbering : Prop :=
  (∀ (f : Frame) (now : Time) (level code claimed byte : Byte) (mask a b : Nib) (bytes : List Byte),
    [Instr.route f now, .sched now, .doorTick, .lightTick now, .turnTick now, .checkTimeout now,
     .setAmbient level now, .setDoorOpen mask, .renderDoorStatus, .renderLightStatus, .renderTurnStatus,
     .renderFaultStatus, .renderHeartbeat now, .faultReport code now, .faultClear code, .faultClearAll,
     .faultIsActive code, .faultCount, .faultFlags, .faultMostRecent, .checksum bytes,
     .validateChecksum claimed bytes, .buildVc a b, .extractVersion byte, .extractCounter byte,
     .validateCounter a b].map opsel = (List.range 26).map some) ∧
  (∀ (sel : Byte) (rest : List Byte) (s : State), 0b11010 ≤ sel.toNat → sel.toNat ≤ 0b11111 →
    s.cfg.legal = true →
    step (presentFirst ⟨.operation, sel :: rest⟩ s) = .refused .noSuchOperation)

/-- Words written out from the spec's encodings decode to what they stand for (R85, R95 to R100, R105): the
spec's own frames `0x100 [01 FF 10 44]`, `0x100 [03 02 15 BE]`, `0x110 [00 91 10 2B]`, `0x120 [03 00 10 B9]`,
a DOOR_STATUS word, an unmatched word, SCHED, and a select that names no operation. The word `0x11040091102B`
matches a headlight row and an interior row (R100); that it reads as `lightIntOn` is the model's choice (log
entry 3), and so are the zeros of the operand bytes and times (log entry 2). -/
def Obligations.DecodeReadsSampleWords : Prop :=
  decodeTableWord 48 0x100401FF1044 = some (.doorLockAll 0xFF 1 0 0x44 0) ∧
  decodeTableWord 48 0x1004030215BE = some (.doorLockSingle 2 1 5 0xBE 0) ∧
  decodeTableWord 48 0x11040091102B = some (.lightIntOn 0 9 0 1 0 0x2B 0) ∧
  decodeTableWord 48 0x1204030010B9 = some (.turnHazardOn 0 1 0 0xB9 0) ∧
  decodeTableWord 64 0x20060F00000010B5 = some (.doorStatus 0x0F 0 0 0 0x10 0xB5 0) ∧
  decodeTableWord 48 0x1004090015B6 = some (.route ⟨0x100, [9, 0, 0x15, 0xB6]⟩ 0) ∧
  decodeTableWord 8 0b00001 = some (.sched 0) ∧
  decodeTableWord 8 0b11010 = none

/-- Decoding an encoded well-formed instruction gives it back, every operand at every value. The hypothesis
`spelledByOwnRow` leaves out only lighting rows whose word is the word of another row too (R100, log
entry 3). -/
def Obligations.DecodeInvertsEncode : Prop :=
  ∀ i : Instr, i.wellFormed = true → i.spelledByOwnRow → decode (encode i) = .ok i

/-- Every well-formed instruction, the lighting rows with a shared word too, decodes back to an instruction
of the same meaning (R100). -/
def Obligations.DecodeOfEncodeKeepsTheMeaning : Prop :=
  ∀ i : Instr, i.wellFormed = true →
    ∃ j, decode (encode i) = .ok j ∧ ∀ s, exec j s = exec i s

/-- R85 and the opcode table: a 47-bit frame word W that a door or turn row selects, `(W & mask) == match`,
is read as that row with the row's fields `W[23:16]`, `W[15:12]`, `W[11:8]`, `W[7:0]`. How W and the time
stand in the packet is the model's (log entry 2). -/
def Obligations.CommandWordsFollowTheOpcodeTable : Prop :=
  ∀ (w : BitVec 47) (now : Time),
    let read := decode ⟨.frameWord, leBytes 6 w.toNat ++ timeBytes now⟩
    let arg : Byte := w.extractLsb' 16 8
    let ver : Nib := w.extractLsb' 12 4
    let ctr : Nib := w.extractLsb' 8 4
    let ck : Byte := w.extractLsb' 0 8
    let row := w &&& 0x7fffff000000#47
    (row = 0x100401000000#47 → read = .ok (.doorLockAll arg ver ctr ck now)) ∧
    (row = 0x100402000000#47 → read = .ok (.doorUnlockAll arg ver ctr ck now)) ∧
    (row = 0x100403000000#47 → read = .ok (.doorLockSingle arg ver ctr ck now)) ∧
    (row = 0x100404000000#47 → read = .ok (.doorUnlockSingle arg ver ctr ck now)) ∧
    (row = 0x120400000000#47 → read = .ok (.turnOff arg ver ctr ck now)) ∧
    (row = 0x120401000000#47 → read = .ok (.turnLeft arg ver ctr ck now)) ∧
    (row = 0x120402000000#47 → read = .ok (.turnRight arg ver ctr ck now)) ∧
    (row = 0x120403000000#47 → read = .ok (.turnHazardOn arg ver ctr ck now)) ∧
    (row = 0x120404000000#47 → read = .ok (.turnHazardOff arg ver ctr ck now))

/-! ## The codec -/

/-- R121: CHECKSUM returns the fold `0xAA ^ bytes[0] ^ ... ^ bytes[n-1]` and changes nothing; the result does
not depend on the order of the bytes; the empty sequence is refused. -/
def Obligations.ChecksumFoldsFromTheSeed : Prop :=
  ∀ s : State,
    (∀ bytes, opsel (.checksum bytes) = some 0b10100) ∧
    exec (.checksum []) s = .refused .emptyBytes ∧
    (∀ b : Byte, exec (.checksum [b]) s = .next (s.answering (.byte (0xAA ^^^ b)))) ∧
    (∀ (bytes : List Byte), bytes ≠ [] → ∃ c : Byte,
      exec (.checksum bytes) s = .next (s.answering (.byte c)) ∧
      (∀ b : Byte, exec (.checksum (b :: bytes)) s = .next (s.answering (.byte (c ^^^ b)))) ∧
      (∀ other : List Byte, other.Perm bytes →
        exec (.checksum other) s = .next (s.answering (.byte c))) ∧
      ((∀ b ∈ bytes, b = 0) → c = 0xAA))

/-- R122: VALIDATE_CHECKSUM compares the checksum with the claimed byte and changes nothing; "mutating any
single byte makes it false", the claimed byte included; the empty sequence is refused. -/
def Obligations.ValidateChecksumDetectsOneChangedByte : Prop :=
  ∀ s : State,
    (∀ k bytes, opsel (.validateChecksum k bytes) = some 0b10101) ∧
    (∀ k, exec (.validateChecksum k []) s = .refused .emptyBytes) ∧
    (∀ (bytes : List Byte), bytes ≠ [] → ∃ c : Byte,
      exec (.checksum bytes) s = .next (s.answering (.byte c)) ∧
      (∀ k, exec (.validateChecksum k bytes) s = .next (s.answering (.bit (c == k)))) ∧
      exec (.validateChecksum c bytes) s = .next (s.answering (.bit true)) ∧
      (∀ (n : Nat) (b : Byte), (h : n < bytes.length) → bytes[n] ≠ b →
        exec (.validateChecksum c (bytes.set n b)) s = .next (s.answering (.bit false))))

/-- R123, R124, R125: BUILD_VC packs `{version, counter}`, EXTRACT_VERSION and EXTRACT_COUNTER unpack bits 7:4
and 3:0, each is the inverse of the other, and nothing else changes. -/
def Obligations.VersionCounterBytePacksAndUnpacks : Prop :=
  ∀ s : State,
    (∀ (v c : Nib) (b : Byte), opsel (.buildVc v c) = some 0b10110 ∧
      opsel (.extractVersion b) = some 0b10111 ∧ opsel (.extractCounter b) = some 0b11000) ∧
    (∀ v c : Nib, exec (.buildVc v c) s =
      .next (s.answering (.byte (BitVec.ofNat 8 (v.toNat * 16 + c.toNat))))) ∧
    (∀ b : Byte, exec (.extractVersion b) s = .next (s.answering (.nib (BitVec.ofNat 4 (b.toNat / 16))))) ∧
    (∀ b : Byte, exec (.extractCounter b) s = .next (s.answering (.nib (BitVec.ofNat 4 (b.toNat % 16))))) ∧
    (∀ (v c : Nib) (t : State) (b : Byte), exec (.buildVc v c) s = .next t → t.out.result = .byte b →
      exec (.extractVersion b) s = .next (s.answering (.nib v)) ∧
      exec (.extractCounter b) s = .next (s.answering (.nib c))) ∧
    (∀ b : Byte, ∃ v c : Nib, exec (.extractVersion b) s = .next (s.answering (.nib v)) ∧
      exec (.extractCounter b) s = .next (s.answering (.nib c)) ∧
      exec (.buildVc v c) s = .next (s.answering (.byte b)))

/-- R126: VALIDATE_COUNTER is `received == (last + 1) mod 16`, and for each `last` exactly one of the 16
values of `received` is valid. -/
def Obligations.ValidateCounterAcceptsExactlyTheNext : Prop :=
  ∀ (s : State) (last : Nib),
    (∀ received : Nib, opsel (.validateCounter received last) = some 0b11001) ∧
    (∀ received : Nib, exec (.validateCounter received last) s =
      .next (s.answering (.bit (decide (received.toNat = (last.toNat + 1) % 16))))) ∧
    ∃ received : Nib, ∀ r : Nib,
      (exec (.validateCounter r last) s = .next (s.answering (.bit true)) ↔ r = received)

/-! ## The Fault Tracker -/

/-- R141: FAULT_REPORT of a code other than 0. A present code is bumped, its `first_seen` kept; a new code is
inserted while capacity remains; a stored report writes the flag bit of a code up to 15, the most recent code
and its time; a dropped one writes nothing. Code 0 is refused. -/
def Obligations.FaultReportStoresOrDrops : Prop :=
  ∀ (s : State) (code : Byte) (now : Time),
    opsel (.faultReport code now) = some 0b01101 ∧
    exec (.faultReport 0 now) s = .refused .zeroFaultCode ∧
    (code ≠ 0 → s.lastNow ≤ now → ∃ t, exec (.faultReport code now) s = .next t ∧
      match findRecord code s.records with
      | some r =>
        t = { s.atTime now with records := t.records, flags := t.flags, mostRecent := code, recentTime := now } ∧
        findRecord code t.records = some ⟨r.code, r.firstSeen, now, r.count + 1⟩ ∧
        t.records.length = s.records.length ∧
        (∀ c, c ≠ code → findRecord c t.records = findRecord c s.records) ∧
        (∀ k, t.flags.getLsbD k = (s.flags.getLsbD k || decide (k = code.toNat ∧ k ≤ 15)))
      | none =>
        if s.records.length < s.cfg.faultCapacity then
          t = { s.atTime now with records := t.records, flags := t.flags, mostRecent := code, recentTime := now } ∧
          findRecord code t.records = some ⟨code, now, now, 1⟩ ∧
          t.records.length = s.records.length + 1 ∧
          (∀ c, c ≠ code → findRecord c t.records = findRecord c s.records) ∧
          (∀ k, t.flags.getLsbD k = (s.flags.getLsbD k || decide (k = code.toNat ∧ k ≤ 15)))
        else t = s.atTime now)

/-- R143: FAULT_CLEAR removes the record of a present code and clears its flag bit; the most recent code and
its time stay; an absent code changes nothing. That the records stand in rising order, and stay so, is the
model's choice (log entry 9). -/
def Obligations.FaultClearRemovesOneCode : Prop :=
  ∀ (s : State) (code : Byte), opsel (.faultClear code) = some 0b01110 ∧
    ∃ t, exec (.faultClear code) s = .next t ∧
    if (findRecord code s.records).isSome then
      t = { s.answering .none with records := t.records, flags := t.flags } ∧
      (∀ c, findRecord c t.records = if c = code then none else findRecord c s.records) ∧
      (recordsRising s.records → t.records.length + 1 = s.records.length ∧ recordsRising t.records) ∧
      (∀ k, t.flags.getLsbD k = (s.flags.getLsbD k && !decide (k = code.toNat ∧ k ≤ 15)))
    else t = s.answering .none

/-- R144, and the four queries of R145 to R148, which write no state. -/
def Obligations.FaultClearAllAndQueries : Prop :=
  ∀ s : State,
    (∀ code, [Instr.faultClearAll, .faultIsActive code, .faultCount, .faultFlags, .faultMostRecent].map opsel =
      [0b01111, 0b10000, 0b10001, 0b10010, 0b10011].map some) ∧
    exec .faultClearAll s = .next { s.answering .none with records := [], flags := 0 } ∧
    (∀ code, exec (.faultIsActive code) s =
      .next (s.answering (.bit (s.records.any (fun r => r.code == code))))) ∧
    (s.trackerInv → exec (.faultIsActive 0) s = .next (s.answering (.bit false)) ∧
      s.records.length ≤ s.cfg.faultCapacity) ∧
    exec .faultCount s = .next (s.answering (.int s.records.length)) ∧
    (∃ f1 f2 : Byte, exec .faultFlags s = .next (s.answering (.bytes f1 f2)) ∧
      ∀ k, k < 8 → f1.getLsbD k = s.flags.getLsbD k ∧ f2.getLsbD k = s.flags.getLsbD (k + 8)) ∧
    exec .faultMostRecent s = .next (s.answering (.byte s.mostRecent))

/-- R35 (a) to (d), with the order of the model's list (log entry 9), is kept by every step (`[derived]` in
the spec). -/
def Obligations.FaultTrackerInvariantKept : Prop :=
  ∀ s t : State, s.trackerInv → step s = .next t → t.trackerInv

/-- R141, corner case (a): reports of distinct codes to an empty tracker store exactly the first
FAULT_CAPACITY of them, and the count is the number stored. -/
def Obligations.FaultCapacityBoundsTheLog : Prop :=
  ∀ (s : State) (codes : List Byte), s.records = [] → codes.Nodup → (∀ c ∈ codes, c ≠ 0) →
    ∃ u fs, performAll (codes.map (fun c => Instr.faultReport c s.lastNow)) s = some (u, fs) ∧
      u.records.length = min codes.length s.cfg.faultCapacity ∧
      ∀ c, (faultActive c u = true ↔ c ∈ codes.take s.cfg.faultCapacity)

/-- R142: no operation but FAULT_REPORT makes a code active that is none of the five of R291 (`[derived]` in
the spec). -/
def Obligations.CoreReportsOnlyFiveCodes : Prop :=
  ∀ (i : Instr) (s t : State) (c : Byte), exec i s = .next t → (∀ code now, i ≠ .faultReport code now) →
    faultActive c t = true → faultActive c s = true ∨ (1 ≤ c.toNat ∧ c.toNat ≤ 5)

/-! ## Command validation -/

/-- R161: a frame with a command identifier and a length other than 4 is rejected with InvalidCommand (1) and
fault InvalidLength (1), whatever its payload. -/
def Obligations.WrongLengthIsRejected : Prop :=
  ∀ (s : State) (ch : Channel) (data : List Byte) (now : Time),
    s.lastNow ≤ now → data.length ≤ 8 → data.length ≠ 4 →
    exec (.route ⟨ch.ident, data⟩ now) s = .next (reportFault 1 now (s.rejectedOn ch 1 now))

/-- R162: a 4-byte command frame whose byte 3 is not the checksum of bytes 0 to 2 is rejected with
ChecksumError (2) and fault InvalidChecksum (2), whatever its counter and command byte. -/
def Obligations.BadChecksumIsRejected : Prop :=
  ∀ (s : State) (ch : Channel) (b0 b1 b2 b3 : Byte) (now : Time),
    s.lastNow ≤ now → b3 ≠ 0xAA ^^^ b0 ^^^ b1 ^^^ b2 →
    exec (.route ⟨ch.ident, [b0, b1, b2, b3]⟩ now) s = .next (reportFault 2 now (s.rejectedOn ch 2 now))

/-- R164: with a good checksum, the frame is rejected with CounterError (3) and fault InvalidCounter (3)
exactly when the channel is seeded and the counter is not the last accepted one plus 1 modulo 16; a frame
that passes the counter and is then rejected leaves the channel as seeded or unseeded as it was. -/
def Obligations.BadCounterIsRejected : Prop :=
  ∀ (s : State) (ch : Channel) (b0 b1 b3 : Byte) (ver ctr : Nib) (now : Time),
    s.lastNow ≤ now → b3 = 0xAA ^^^ b0 ^^^ b1 ^^^ (ver ++ ctr) →
    ∃ t, exec (.route ⟨ch.ident, [b0, b1, ver ++ ctr, b3]⟩ now) s = .next t ∧
      if (s.vr.get ch).seeded = true ∧ ctr.toNat ≠ ((s.vr.get ch).lastCounter.toNat + 1) % 16 then
        t = reportFault 3 now (s.rejectedOn ch 3 now)
      else t.out.result ≠ .code 3 ∧ (t.out.result ≠ .code 0 → (t.vr.get ch).seeded = (s.vr.get ch).seeded)

/-- R181, R201, R202, R231: a frame that passes the checksum and the counter is rejected with InvalidCommand
(1) and fault InvalidCommand (4) for a door command byte outside 1 to 4, a headlight code above 4, an interior
mode of 3, a turn command byte above 4. -/
def Obligations.IllegalCommandsAreRejected : Prop :=
  ∀ (s : State) (b0 b1 b3 : Byte) (ver ctr : Nib) (now : Time), s.lastNow ≤ now →
    (s.admits .door b0 b1 ver ctr b3 → (b0.toNat = 0 ∨ 4 < b0.toNat) →
      exec (.route ⟨0x100, [b0, b1, ver ++ ctr, b3]⟩ now) s =
        .next (reportFault 4 now (s.rejectedOn .door 1 now))) ∧
    (s.admits .light b0 b1 ver ctr b3 → (4 < b0.toNat ∨ b1.toNat % 4 = 3) →
      exec (.route ⟨0x110, [b0, b1, ver ++ ctr, b3]⟩ now) s =
        .next (reportFault 4 now (s.rejectedOn .light 1 now))) ∧
    (s.admits .turn b0 b1 ver ctr b3 → 4 < b0.toNat →
      exec (.route ⟨0x120, [b0, b1, ver ++ ctr, b3]⟩ now) s =
        .next (reportFault 4 now (s.rejectedOn .turn 1 now)))

/-- R182: LockSingle and UnlockSingle with a door-select byte outside 0 to 3 are rejected with InvalidCommand
(1) and no fault is reported; with one of 0 to 3, and for LockAll and UnlockAll with any, they are not. -/
def Obligations.DoorSelectIsRejectedWithoutFault : Prop :=
  ∀ (s : State) (op doorId ck : Byte) (ver ctr : Nib) (now : Time), s.lastNow ≤ now →
    1 ≤ op.toNat → op.toNat ≤ 4 → s.admits .door op doorId ver ctr ck →
    ∃ t, exec (.route ⟨0x100, [op, doorId, ver ++ ctr, ck]⟩ now) s = .next t ∧
      if 3 ≤ op.toNat ∧ 3 < doorId.toNat then t = s.rejectedOn .door 1 now
      else t.out.result = .code 0 ∧ t.records = s.records

/-- R260 with R167: ROUTE of an admitted frame with a legal command and legal parameters is accepted: the
accept bookkeeping on its channel and a change of that channel's subsystem, nothing else. -/
def Obligations.RouteAcceptsLegalCommands : Prop :=
  ∀ (s : State) (b0 b1 ck : Byte) (ver ctr : Nib) (now : Time), s.lastNow ≤ now →
    (s.admits .door b0 b1 ver ctr ck → 1 ≤ b0.toNat → b0.toNat ≤ 4 → (3 ≤ b0.toNat → b1.toNat ≤ 3) →
      ∃ t, exec (.route ⟨0x100, [b0, b1, ver ++ ctr, ck]⟩ now) s = .next t ∧
        t = { s.acceptedOn .door ctr now with lock := t.lock }) ∧
    (s.admits .light b0 b1 ver ctr ck → b0.toNat ≤ 4 → b1.toNat % 4 ≠ 3 →
      ∃ t, exec (.route ⟨0x110, [b0, b1, ver ++ ctr, ck]⟩ now) s = .next t ∧
        t = { s.acceptedOn .light ctr now with
          headlightMode := t.headlightMode, highBeam := t.highBeam, headlightOutput := t.headlightOutput
          interiorMode := t.interiorMode, interiorBrightness := t.interiorBrightness }) ∧
    (s.admits .turn b0 b1 ver ctr ck → b0.toNat ≤ 4 →
      ∃ t, exec (.route ⟨0x120, [b0, b1, ver ++ ctr, ck]⟩ now) s = .next t ∧
        t = { s.acceptedOn .turn ctr now with
          turnMode := t.turnMode, lampOn := t.lampOn, flashCount := t.flashCount
          lastToggle := t.lastToggle })

/-- R168: a rejected frame writes the channel's last result and the Fault Tracker and nothing else
(`[derived]` in the spec). -/
def Obligations.RejectionWritesNothingElse : Prop :=
  ∀ (f : Frame) (now : Time) (s t : State) (r : Byte),
    exec (.route f now) s = .next t → t.out.result = .code r → r ≠ 0 →
    ∃ ch : Channel, f.id = ch.ident ∧
      t = { s.rejectedOn ch r now with
            records := t.records, flags := t.flags, mostRecent := t.mostRecent, recentTime := t.recentTime }

/-- R40: a frame writes the validation record and the subsystem of its own channel only, beside the Fault
Tracker; and it transmits nothing (R260). -/
def Obligations.CommandsStayOnTheirChannel : Prop :=
  ∀ (f : Frame) (now : Time) (s t : State), exec (.route f now) s = .next t →
    (∀ ch : Channel, f.id ≠ ch.ident → t.vr.get ch = s.vr.get ch) ∧
    (f.id ≠ 0x100 → t.lock = s.lock) ∧
    (f.id ≠ 0x110 → t.headlightMode = s.headlightMode ∧ t.highBeam = s.highBeam ∧
      t.headlightOutput = s.headlightOutput ∧ t.interiorMode = s.interiorMode ∧
      t.interiorBrightness = s.interiorBrightness) ∧
    (f.id ≠ 0x120 → t.turnMode = s.turnMode ∧ t.lampOn = s.lampOn ∧ t.flashCount = s.flashCount ∧
      t.lastToggle = s.lastToggle) ∧
    t.doorOpen = s.doorOpen ∧ t.ambientSample = s.ambientSample ∧ t.ambientTime = s.ambientTime ∧
    t.txCtr = s.txCtr ∧ t.lastFast = s.lastFast ∧ t.lastStatus = s.lastStatus ∧
    t.lastSlow = s.lastSlow ∧ t.cfg = s.cfg ∧ t.port = s.port ∧ t.lastNow = now ∧ t.out.frames = []

/-- R261: a frame whose identifier is none of 0x100, 0x110, 0x120 changes nothing and returns nothing; the
five transmit rows, presented as inbound words, are such frames: that clause is the model's deduction from R63
and R261 (log entry 10). -/
def Obligations.UnrecognisedFramesAreIgnored : Prop :=
  ∀ (s : State) (now : Time), s.lastNow ≤ now →
    (∀ f : Frame, f.data.length ≤ 8 → f.id ≠ 0x100 → f.id ≠ 0x110 → f.id ≠ 0x120 →
      exec (.route f now) s = .next (s.atTime now)) ∧
    (∀ b0 b1 b2 b3 b4 b5 vc ck : Byte,
      exec (.doorStatus b0 b1 b2 b3 vc ck now) s = .next (s.atTime now) ∧
      exec (.lightingStatus b0 b1 b2 b3 vc ck now) s = .next (s.atTime now) ∧
      exec (.turnStatus b0 b1 b2 b3 vc ck now) s = .next (s.atTime now) ∧
      exec (.faultStatus b0 b1 b2 b3 b4 b5 vc ck now) s = .next (s.atTime now) ∧
      exec (.heartbeat b0 b1 vc ck now) s = .next (s.atTime now))

/-- A row of the opcode table means what ROUTE of its frame means (R80, R95, R260), in every state. -/
def Obligations.FrameRowMeansRouteOfItsFrame : Prop :=
  ∀ (i : Instr) (f : Frame) (now : Time) (s : State), i.frame? = some (f, now) →
    exec i s = exec (.route f now) s

/-- R127 with R25: across any operation a channel either keeps its seeded bit and counter, or has accepted a
command: it is seeded, its result is OK, and where it was seeded before the counter is the old one plus 1
modulo 16. -/
def Obligations.RollingCounterAdvancesByOne : Prop :=
  ∀ (i : Instr) (s t : State) (ch : Channel), exec i s = .next t →
    ((t.vr.get ch).seeded = (s.vr.get ch).seeded ∧ (t.vr.get ch).lastCounter = (s.vr.get ch).lastCounter ∧
      (t.vr.get ch).lastCmdTime = (s.vr.get ch).lastCmdTime) ∨
    ((t.vr.get ch).seeded = true ∧ (t.vr.get ch).lastResult = 0 ∧ t.out.result = .code 0 ∧
      (t.vr.get ch).lastCmdTime = t.lastNow ∧
      ((s.vr.get ch).seeded = true →
        (t.vr.get ch).lastCounter.toNat = ((s.vr.get ch).lastCounter.toNat + 1) % 16))

/-! ## Door -/

/-- R184, R185: an admitted DOOR.LOCK_ALL drives every door that is not `Locked` to `Locking`, DOOR.UNLOCK_ALL
every door that is not `Unlocked` to `Unlocking`; the door byte is ignored; accept bookkeeping; nothing else
changes. That a door in `Locking` or `Unlocking` is driven too is the inference the spec marks `[derived]` in
R183 (with R189). -/
def Obligations.DoorAllCommandsDriveEveryDoor : Prop :=
  ∀ (s : State) (doorId ck : Byte) (ver ctr : Nib) (now : Time), s.lastNow ≤ now →
    (Instr.doorLockAll doorId ver ctr ck now).frame? = some (⟨0x100, [1, doorId, ver ++ ctr, ck]⟩, now) ∧
    (Instr.doorUnlockAll doorId ver ctr ck now).frame? = some (⟨0x100, [2, doorId, ver ++ ctr, ck]⟩, now) ∧
    (s.admits .door 1 doorId ver ctr ck →
      ∃ t, exec (.doorLockAll doorId ver ctr ck now) s = .next t ∧
        t = { s.acceptedOn .door ctr now with lock := t.lock } ∧
        ∀ i, t.lock.get i = if s.lock.get i = .locked then .locked else .locking) ∧
    (s.admits .door 2 doorId ver ctr ck →
      ∃ t, exec (.doorUnlockAll doorId ver ctr ck now) s = .next t ∧
        t = { s.acceptedOn .door ctr now with lock := t.lock } ∧
        ∀ i, t.lock.get i = if s.lock.get i = .unlocked then .unlocked else .unlocking)

/-- R186, R187: an admitted DOOR.LOCK_SINGLE or DOOR.UNLOCK_SINGLE with a door-select byte of 0 to 3 drives
that door only; with a greater one it is rejected by R182. That a door in `Locking` or `Unlocking` is driven
too is the inference the spec marks `[derived]` in R183 (with R189). -/
def Obligations.DoorSingleCommandsDriveOneDoor : Prop :=
  ∀ (s : State) (doorId ck : Byte) (ver ctr : Nib) (now : Time), s.lastNow ≤ now →
    (Instr.doorLockSingle doorId ver ctr ck now).frame? = some (⟨0x100, [3, doorId, ver ++ ctr, ck]⟩, now) ∧
    (Instr.doorUnlockSingle doorId ver ctr ck now).frame? = some (⟨0x100, [4, doorId, ver ++ ctr, ck]⟩, now) ∧
    (s.admits .door 3 doorId ver ctr ck → doorId.toNat ≤ 3 →
      ∃ t, exec (.doorLockSingle doorId ver ctr ck now) s = .next t ∧
        t = { s.acceptedOn .door ctr now with lock := t.lock } ∧
        ∀ i, t.lock.get i =
          if i.toNat = doorId.toNat ∧ s.lock.get i ≠ .locked then .locking else s.lock.get i) ∧
    (s.admits .door 3 doorId ver ctr ck → 3 < doorId.toNat →
      exec (.doorLockSingle doorId ver ctr ck now) s = .next (s.rejectedOn .door 1 now)) ∧
    (s.admits .door 4 doorId ver ctr ck → 3 < doorId.toNat →
      exec (.doorUnlockSingle doorId ver ctr ck now) s = .next (s.rejectedOn .door 1 now)) ∧
    (s.admits .door 4 doorId ver ctr ck → doorId.toNat ≤ 3 →
      ∃ t, exec (.doorUnlockSingle doorId ver ctr ck now) s = .next t ∧
        t = { s.acceptedOn .door ctr now with lock := t.lock } ∧
        ∀ i, t.lock.get i =
          if i.toNat = doorId.toNat ∧ s.lock.get i ≠ .unlocked then .unlocking else s.lock.get i)

/-- R190: DOOR_TICK advances each `Locking` door to `Locked` and each `Unlocking` door to `Unlocked`, writes
the lock states only, and two ticks in a row equal one. -/
def Obligations.DoorTickEndsTransientStates : Prop :=
  opsel .doorTick = some 0b00010 ∧
  ∀ s : State, ∃ t, exec .doorTick s = .next t ∧ t = { s.answering .none with lock := t.lock } ∧
    (∀ i, t.lock.get i =
      if s.lock.get i = .locking then .locked
      else if s.lock.get i = .unlocking then .unlocked else s.lock.get i) ∧
    exec .doorTick t = .next t

/-- R193: RENDER_DOOR_STATUS emits one frame `0x200` with the lock mask (bits 7:4 zero; a transient door
renders as not locked), the open mask, the door channel's last result, the number of active codes modulo 256,
`{1, counter}` and the checksum, and steps the door TX counter only. -/
def Obligations.DoorStatusShowsTheDoors : Prop :=
  opsel .renderDoorStatus = some 0b01000 ∧
  ∀ s : State, ∃ locks opens vc ck : Byte,
    exec .renderDoorStatus s = .next { s with
      txCtr := { s.txCtr with doorStatus := s.txCtr.doorStatus + 1 }
      out := ⟨.none, [⟨0x200, [locks, opens, s.vr.door.lastResult,
        BitVec.ofNat 8 s.records.length, vc, ck]⟩]⟩ } ∧
    (∀ i : DoorNo, locks.getLsbD i.toNat = (s.lock.get i == .locked)) ∧ locks.toNat < 16 ∧
    opens.toNat = s.doorOpen.toNat ∧ vc = 1#4 ++ s.txCtr.doorStatus ∧
    ck = 0xAA ^^^ locks ^^^ opens ^^^ s.vr.door.lastResult ^^^ BitVec.ofNat 8 s.records.length ^^^ vc

/-- R192: SET_DOOR_OPEN writes the latch only, and nothing reads the latch but the status render: every other
operation does the same whatever the latch holds, and only the frames of a door status differ. -/
def Obligations.DoorOpenIsOnlyShown : Prop :=
  ∀ (s : State) (mask : Nib),
    opsel (.setDoorOpen mask) = some 0b00111 ∧
    exec (.setDoorOpen mask) s = .next { s.answering .none with doorOpen := mask } ∧
    ∀ (i : Instr) (t : State), exec i s = .next t → (∀ m, i ≠ .setDoorOpen m) →
      t.doorOpen = s.doorOpen ∧
      ∃ o, exec i { s with doorOpen := mask } = .next { t with doorOpen := mask, out := o } ∧
        o.result = t.out.result ∧
        (i ≠ .renderDoorStatus → (∀ now, i ≠ .sched now) → o = t.out)

/-! ## Lighting -/

/-- R204, R208 to R211 (with R202, R205 to R207 for the interior byte and R212, R213 for the output): an
admitted headlight row with a legal interior byte. The mode and the flag become what the row says; the
interior mode is bits 1:0, the brightness 0, the upper nibble or the old one; the output is recomputed last.
Nothing else changes. -/
def Obligations.HeadlightCommandsSetModeAndFlag : Prop :=
  ∀ (s : State) (interior ck : Byte) (ver ctr : Nib) (now : Time), s.lastNow ≤ now →
    interior.toNat % 4 ≠ 3 →
    let lit := litAfter (s.headlightOutput != .off) s.ambientSample s.cfg.onThreshold s.cfg.offThreshold
    let leaves (m : HeadlightMode) (fl : Bool) : State :=
      { s.acceptedOn .light ctr now with
        headlightMode := m, highBeam := fl, headlightOutput := shownOutput m fl lit
        interiorMode :=
          if interior.toNat % 4 = 0 then .off else if interior.toNat % 4 = 1 then .on else .auto
        interiorBrightness :=
          if interior.toNat % 4 = 0 then 0
          else if interior.toNat % 4 = 1 then BitVec.ofNat 4 (interior.toNat / 16)
          else s.interiorBrightness }
    ([Instr.lightHlOff interior ver ctr ck now, .lightHlOn interior ver ctr ck now,
      .lightHlAuto interior ver ctr ck now, .lightHlHighOn interior ver ctr ck now,
      .lightHlHighOff interior ver ctr ck now].map Instr.frame? =
      [0, 1, 2, 3, 4].map (fun op => some (⟨0x110, [op, interior, ver ++ ctr, ck]⟩, now))) ∧
    (s.admits .light 0 interior ver ctr ck →
      exec (.lightHlOff interior ver ctr ck now) s = .next (leaves .off s.highBeam)) ∧
    (s.admits .light 1 interior ver ctr ck →
      exec (.lightHlOn interior ver ctr ck now) s = .next (leaves .on s.highBeam)) ∧
    (s.admits .light 2 interior ver ctr ck →
      exec (.lightHlAuto interior ver ctr ck now) s = .next (leaves .auto s.highBeam)) ∧
    (s.admits .light 3 interior ver ctr ck →
      exec (.lightHlHighOn interior ver ctr ck now) s = .next (leaves s.headlightMode true)) ∧
    (s.admits .light 4 interior ver ctr ck →
      exec (.lightHlHighOff interior ver ctr ck now) s = .next (leaves s.headlightMode false))

/-- R205, R206, R207: an admitted interior row with a legal headlight code. `Off` clears the brightness, `On`
stores the nibble, `Auto` leaves it; the ignored bits have no effect; the headlight sub-command of the same
frame is applied too (R100), and the output is recomputed. Nothing else changes. -/
def Obligations.InteriorCommandsSetModeAndBrightness : Prop :=
  ∀ (s : State) (headlight ck : Byte) (bri : Nib) (ign : BitVec 2) (ver ctr : Nib) (now : Time),
    s.lastNow ≤ now → headlight.toNat ≤ 4 →
    let lit := litAfter (s.headlightOutput != .off) s.ambientSample s.cfg.onThreshold s.cfg.offThreshold
    let m : HeadlightMode :=
      if headlight.toNat = 0 then .off else if headlight.toNat = 1 then .on
      else if headlight.toNat = 2 then .auto else s.headlightMode
    let fl : Bool :=
      if headlight.toNat = 3 then true else if headlight.toNat = 4 then false else s.highBeam
    let leaves (im : InteriorMode) (b : Nib) : State :=
      { s.acceptedOn .light ctr now with
        headlightMode := m, highBeam := fl, headlightOutput := shownOutput m fl lit
        interiorMode := im, interiorBrightness := b }
    ([Instr.lightIntOff headlight bri ign ver ctr ck now, .lightIntOn headlight bri ign ver ctr ck now,
      .lightIntAuto headlight bri ign ver ctr ck now].map Instr.frame? =
      [0#2, 1#2, 2#2].map
        (fun mode => some (⟨0x110, [headlight, bri ++ ign ++ mode, ver ++ ctr, ck]⟩, now))) ∧
    (s.admits .light headlight (bri ++ ign ++ 0#2) ver ctr ck →
      exec (.lightIntOff headlight bri ign ver ctr ck now) s = .next (leaves .off 0)) ∧
    (s.admits .light headlight (bri ++ ign ++ 1#2) ver ctr ck →
      exec (.lightIntOn headlight bri ign ver ctr ck now) s = .next (leaves .on bri)) ∧
    (s.admits .light headlight (bri ++ ign ++ 2#2) ver ctr ck →
      exec (.lightIntAuto headlight bri ign ver ctr ck now) s = .next (leaves .auto s.interiorBrightness))

/-- R207: an admitted LIGHT.INT_AUTO row leaves the brightness, whatever its nibble, and no operation drives
the brightness while the interior mode is `Auto`. -/
def Obligations.AutoLeavesTheBrightness : Prop :=
  (∀ (s : State) (headlight ck : Byte) (bri : Nib) (ign : BitVec 2) (ver ctr : Nib) (now : Time),
    s.lastNow ≤ now → headlight.toNat ≤ 4 → s.admits .light headlight (bri ++ ign ++ 2#2) ver ctr ck →
    (Instr.lightIntAuto headlight bri ign ver ctr ck now).frame? =
      some (⟨0x110, [headlight, bri ++ ign ++ 2#2, ver ++ ctr, ck]⟩, now) ∧
    ∃ t, exec (.lightIntAuto headlight bri ign ver ctr ck now) s = .next t ∧
      t.interiorMode = .auto ∧ t.interiorBrightness = s.interiorBrightness) ∧
  (∀ (i : Instr) (s t : State), exec i s = .next t → s.interiorMode = .auto → t.interiorMode = .auto →
    t.interiorBrightness = s.interiorBrightness)

/-- R215 with R212 and R213: SET_AMBIENT stores the sample and its time and recomputes the output, lit or
unlit by strict comparisons in `Auto`; nothing else changes. -/
def Obligations.SetAmbientRecomputesTheOutput : Prop :=
  ∀ (s : State) (level : Byte) (now : Time), s.lastNow ≤ now →
    opsel (.setAmbient level now) = some 0b00110 ∧
    exec (.setAmbient level now) s = .next { s.atTime now with
      ambientSample := level, ambientTime := now
      headlightOutput := shownOutput s.headlightMode s.highBeam
        (litAfter (s.headlightOutput != .off) level s.cfg.onThreshold s.cfg.offThreshold) }

/-- R213, R214: in `Auto`, any number of samples inside the closed band `[ON_THRESHOLD, OFF_THRESHOLD]`
leaves a lit output lit and an unlit one unlit (no chatter). -/
def Obligations.HysteresisBandDoesNotChatter : Prop :=
  ∀ (s : State) (levels : List Byte), s.headlightMode = .auto →
    (∀ a ∈ levels, s.cfg.onThreshold ≤ a ∧ a ≤ s.cfg.offThreshold) →
    ∃ u fs, performAll (levels.map (fun a => Instr.setAmbient a s.lastNow)) s = some (u, fs) ∧
      (u.headlightOutput = .off ↔ s.headlightOutput = .off)

/-- R216, R217: LIGHT_TICK reports Timeout (5) when the mode is `Auto` and the last sample is older than
AMBIENT_TIMEOUT_MS, then recomputes the output; from a settled output it changes nothing but the Fault
Tracker. Where the sample's time lies above `now`, in no run, the age is the model's truncated difference
(log entry 8; R15 leaves it undefined). -/
def Obligations.LightTickReportsAStaleSensor : Prop :=
  ∀ (s : State) (now : Time), s.lastNow ≤ now →
    let lit := litAfter (s.headlightOutput != .off) s.ambientSample s.cfg.onThreshold s.cfg.offThreshold
    let s' : State := { s.atTime now with
      headlightOutput := shownOutput s.headlightMode s.highBeam lit }
    opsel (.lightTick now) = some 0b00011 ∧
    exec (.lightTick now) s = .next
      (if s.headlightMode = .auto ∧ now.toNat - s.ambientTime.toNat > s.cfg.ambientTimeoutMs.toNat then
        reportFault 5 now s' else s') ∧
    (s.outputSettled → s' = s.atTime now)

/-- R218: RENDER_LIGHT_STATUS emits one frame `0x210`: the output's number, `{0b00, brightness, mode}`, the
sample, the last result, `{1, counter}`, the checksum; it steps the lighting TX counter only. -/
def Obligations.LightStatusShowsTheLights : Prop :=
  opsel .renderLightStatus = some 0b01001 ∧
  ∀ s : State, ∃ b0 b1 vc ck : Byte,
    exec .renderLightStatus s = .next { s with
      txCtr := { s.txCtr with lightingStatus := s.txCtr.lightingStatus + 1 }
      out := ⟨.none, [⟨0x210, [b0, b1, s.ambientSample, s.vr.light.lastResult, vc, ck]⟩]⟩ } ∧
    b0.toNat = (match s.headlightOutput with | .off => 0 | .on => 1 | .auto => 2 | .highBeam => 3) ∧
    b1.toNat = s.interiorBrightness.toNat * 4 +
      (match s.interiorMode with | .off => 0 | .on => 1 | .auto => 2) ∧
    vc = 1#4 ++ s.txCtr.lightingStatus ∧
    ck = 0xAA ^^^ b0 ^^^ b1 ^^^ s.ambientSample ^^^ s.vr.light.lastResult ^^^ vc

/-- R29 (a) to (d) is kept by every step (`[derived]` in the spec). -/
def Obligations.LightingInvariantKept : Prop :=
  ∀ s t : State, s.lightingInv → step s = .next t → t.lightingInv

/-- R216: after any operation the output already equals what recomputation gives (`[derived]` in the spec):
kept by every step. -/
def Obligations.OutputStaysSettled : Prop :=
  ∀ s t : State, s.outputSettled → step s = .next t → t.outputSettled

/-! ## Turn signal -/

/-- R233 to R237, the table of R239: an admitted turn row enters a mode (lamp on, count 0, phase from `now`),
leaves it (lamp off, count and toggle time kept) or changes no turn state; the reserved byte is ignored;
accept bookkeeping; nothing else changes. -/
def Obligations.TurnCommandsFollowTheTable : Prop :=
  ∀ (s : State) (rsv ck : Byte) (ver ctr : Nib) (now : Time), s.lastNow ≤ now →
    let stays : State := s.acceptedOn .turn ctr now
    let leaves : State := { stays with turnMode := .off, lampOn := false }
    let enters (m : TurnMode) : State :=
      { stays with turnMode := m, lampOn := true, flashCount := 0, lastToggle := now }
    ([Instr.turnOff rsv ver ctr ck now, .turnLeft rsv ver ctr ck now, .turnRight rsv ver ctr ck now,
      .turnHazardOn rsv ver ctr ck now, .turnHazardOff rsv ver ctr ck now].map Instr.frame? =
      [0, 1, 2, 3, 4].map (fun op => some (⟨0x120, [op, rsv, ver ++ ctr, ck]⟩, now))) ∧
    (s.admits .turn 0 rsv ver ctr ck → exec (.turnOff rsv ver ctr ck now) s = .next
      (if s.turnMode = .left ∨ s.turnMode = .right then leaves else stays)) ∧
    (s.admits .turn 1 rsv ver ctr ck → exec (.turnLeft rsv ver ctr ck now) s = .next
      (if s.turnMode = .off ∨ s.turnMode = .right then enters .left else stays)) ∧
    (s.admits .turn 2 rsv ver ctr ck → exec (.turnRight rsv ver ctr ck now) s = .next
      (if s.turnMode = .off ∨ s.turnMode = .left then enters .right else stays)) ∧
    (s.admits .turn 3 rsv ver ctr ck → exec (.turnHazardOn rsv ver ctr ck now) s = .next
      (if s.turnMode = .hazard then stays else enters .hazard)) ∧
    (s.admits .turn 4 rsv ver ctr ck → exec (.turnHazardOff rsv ver ctr ck now) s = .next
      (if s.turnMode = .hazard then leaves else stays))

/-- R240: only `HazardOff` leaves `Hazard`, and it goes to `Off`. -/
def Obligations.HazardIsSticky : Prop :=
  ∀ (i : Instr) (s t : State), exec i s = .next t → s.turnMode = .hazard → t.turnMode ≠ .hazard →
    t.turnMode = .off ∧
    ((∃ rsv ver ctr ck now, i = .turnHazardOff rsv ver ctr ck now) ∨
     (∃ rsv vc ck now, i = .route ⟨0x120, [4, rsv, vc, ck]⟩ now))

/-- R242, R243: TURN_TICK flips the lamp once when the phase has lasted its duration, starts the new phase at
`now`, and counts the rising edge modulo 256; in `Off` and before the duration it changes nothing. Where the
last toggle lies above `now`, in no run, the elapsed time is the model's truncated difference (log entry 8;
R15 leaves it undefined). -/
def Obligations.TurnTickFlipsOnce : Prop :=
  ∀ (s : State) (now : Time), s.lastNow ≤ now →
    let duration : Time :=
      if s.turnMode = .hazard then (if s.lampOn then s.cfg.hazOnMs else s.cfg.hazOffMs)
      else (if s.lampOn then s.cfg.turnOnMs else s.cfg.turnOffMs)
    opsel (.turnTick now) = some 0b00100 ∧
    exec (.turnTick now) s = .next
      (if s.turnMode ≠ .off ∧ now.toNat - s.lastToggle.toNat ≥ duration.toNat then
        { s.atTime now with
          lampOn := !s.lampOn, lastToggle := now
          flashCount := if s.lampOn then s.flashCount else BitVec.ofNat 8 ((s.flashCount.toNat + 1) % 256) }
      else s.atTime now)

/-- R245, R246: CHECK_TIMEOUT in `Left` or `Right` with the last accepted command older than
TURN_IDLE_TIMEOUT_MS forces `Off` and reports Timeout (5); the validation record is not changed; otherwise,
and always in `Hazard` and `Off`, nothing changes. Where that command's time lies above `now`, in no run, the
elapsed time is the model's truncated difference (log entry 8; R15 leaves it undefined). -/
def Obligations.CheckTimeoutCancelsAnIdleDirection : Prop :=
  ∀ (s : State) (now : Time), s.lastNow ≤ now →
    opsel (.checkTimeout now) = some 0b00101 ∧
    exec (.checkTimeout now) s = .next
      (if (s.turnMode = .left ∨ s.turnMode = .right) ∧
          now.toNat - s.vr.turn.lastCmdTime.toNat > s.cfg.turnIdleTimeoutMs.toNat then
        reportFault 5 now { s.atTime now with turnMode := .off, lampOn := false }
      else s.atTime now)

/-- R247: RENDER_TURN_STATUS emits one frame `0x220`: the mode's number, the lamps (bit 0 left, bit 1 right),
the flash count, the last result, `{1, counter}`, the checksum; it steps the turn TX counter only. -/
def Obligations.TurnStatusShowsTheLamps : Prop :=
  opsel .renderTurnStatus = some 0b01010 ∧
  ∀ s : State, ∃ b0 b1 vc ck : Byte,
    exec .renderTurnStatus s = .next { s with
      txCtr := { s.txCtr with turnStatus := s.txCtr.turnStatus + 1 }
      out := ⟨.none, [⟨0x220, [b0, b1, s.flashCount, s.vr.turn.lastResult, vc, ck]⟩]⟩ } ∧
    b0.toNat = (match s.turnMode with | .off => 0 | .left => 1 | .right => 2 | .hazard => 3) ∧
    b1.getLsbD 0 = (s.lampOn && decide (s.turnMode = .left ∨ s.turnMode = .hazard)) ∧
    b1.getLsbD 1 = (s.lampOn && decide (s.turnMode = .right ∨ s.turnMode = .hazard)) ∧
    b1.toNat < 4 ∧ vc = 1#4 ++ s.txCtr.turnStatus ∧
    ck = 0xAA ^^^ b0 ^^^ b1 ^^^ s.flashCount ^^^ s.vr.turn.lastResult ^^^ vc

/-- R31: "This spec additionally keeps `S.lamp_on == 0` whenever `S.turn_mode == Off`": kept by every step. -/
def Obligations.LampStaysOutInOff : Prop :=
  ∀ s t : State, s.turnInv → step s = .next t → t.turnInv

/-! ## Scheduler and transmitted frames -/

/-- R262 to R264: SCHED performs exactly the operations of its due triggers, in the order fast, status, slow,
sets the timestamp of each trigger that fires to `now`, and emits their frames in that order, at most five.
The literal 100 is STATUS_PERIOD_MS (R266; log entry 13); where a timestamp lies above `now`, in no run, the
difference is the model's truncated one (log entry 8; R15 leaves it undefined). -/
def Obligations.SchedRunsTheDueTriggers : Prop :=
  ∀ (s : State) (now : Time), s.lastNow ≤ now →
    opsel (.sched now) = some 0b00001 ∧
    ∃ u fs, performAll (dueOperations now s) s = some (u, fs) ∧ fs.length ≤ 5 ∧
      exec (.sched now) s = .next { u with
        lastFast := if s.cfg.fastPeriodMs.toNat ≤ now.toNat - s.lastFast.toNat then now else s.lastFast
        lastStatus := if 100 ≤ now.toNat - s.lastStatus.toNat then now else s.lastStatus
        lastSlow := if s.cfg.slowPeriodMs.toNat ≤ now.toNat - s.lastSlow.toNat then now else s.lastSlow
        lastNow := now, out := ⟨.none, fs⟩ }

/-- R271: no catch-up. A second SCHED at the same time does nothing, however long the first was due. Where a
timestamp lies above `now`, in no run, the difference is the model's truncated one (log entry 8). -/
def Obligations.SchedDoesNotCatchUp : Prop :=
  ∀ (s t : State) (now : Time), s.cfg.legal = true → exec (.sched now) s = .next t →
    exec (.sched now) t = .next (t.atTime now)

/-- R268: RENDER_FAULT_STATUS emits one frame `0x230`: flags 7:0, flags 15:8, the number of active codes modulo
256, the most recent code, bits 15:8 and 7:0 of its time, `{1, counter}`, the checksum; it steps the
fault-status TX counter only. -/
def Obligations.FaultStatusShowsTheTracker : Prop :=
  opsel .renderFaultStatus = some 0b01011 ∧
  ∀ s : State, ∃ f1 f2 hi lo vc ck : Byte,
    exec .renderFaultStatus s = .next { s with
      txCtr := { s.txCtr with faultStatus := s.txCtr.faultStatus + 1 }
      out := ⟨.none, [⟨0x230, [f1, f2, BitVec.ofNat 8 s.records.length, s.mostRecent, hi, lo, vc, ck]⟩]⟩ } ∧
    f1.toNat + 256 * f2.toNat = s.flags.toNat ∧
    lo.toNat + 256 * hi.toNat = s.recentTime.toNat % 65536 ∧
    vc = 1#4 ++ s.txCtr.faultStatus ∧
    ck = 0xAA ^^^ f1 ^^^ f2 ^^^ BitVec.ofNat 8 s.records.length ^^^ s.mostRecent ^^^ hi ^^^ lo ^^^ vc

/-- R269, R270: RENDER_HEARTBEAT emits one frame `0x240`: 1 where any fault is active and else 0, the minutes
since reset modulo 256, `{1, counter}`, the checksum; it steps the heartbeat TX counter only. -/
def Obligations.HeartbeatShowsFaultAndUptime : Prop :=
  ∀ (s : State) (now : Time), s.lastNow ≤ now → opsel (.renderHeartbeat now) = some 0b01100 ∧
    ∃ b0 b1 vc ck : Byte,
    exec (.renderHeartbeat now) s = .next { s with
      txCtr := { s.txCtr with heartbeat := s.txCtr.heartbeat + 1 }
      lastNow := now, out := ⟨.none, [⟨0x240, [b0, b1, vc, ck]⟩]⟩ } ∧
    b0 = (if s.records = [] then 0 else 1) ∧ b1.toNat = now.toNat / 60000 % 256 ∧
    vc = 1#4 ++ s.txCtr.heartbeat ∧ ck = 0xAA ^^^ b0 ^^^ b1 ^^^ vc

/-- R274 with the lengths and identifiers of R63: every frame any operation emits is a frame of one TX channel
with that channel's identifier and length, the ver/ctr byte carries version 1 and the channel's counter as it
was before the operation, and the last byte is the checksum of all before it. -/
def Obligations.EmittedFramesAreSound : Prop :=
  ∀ (i : Instr) (s t : State), exec i s = .next t →
    ∀ f ∈ t.out.frames, ∃ ch : TxChannel, soundFrame f ch (s.txCtr.get ch)

/-- R274, R36: each TX counter steps, modulo 16, by the number of frames the operation emitted on its channel,
and by nothing else. -/
def Obligations.TxCountersCountTheFrames : Prop :=
  ∀ (i : Instr) (s t : State) (ch : TxChannel), exec i s = .next t →
    (t.txCtr.get ch).toNat =
      ((s.txCtr.get ch).toNat + (t.out.frames.filter (fun f => f.id == ch.ident)).length) % 16

/-! ## The whole machine -/

/-- R326 with U3, U1, U2 and U5: an operation completes exactly when its operands are well-formed and its time,
if it takes one, is not below an earlier one; no other operation or data is ever refused (R298). -/
def Obligations.OperationsCompleteExactlyWhenLegal : Prop :=
  ∀ (i : Instr) (s : State),
    ((∃ t, exec i s = .next t) ↔
      i.wellFormed = true ∧ ∀ now, i.time? = some now → s.lastNow ≤ now)

/-- R326: every stored time is an earlier `now` or 0: kept by every step. -/
def Obligations.StoredTimesStayInThePast : Prop :=
  ∀ s t : State, s.clockInv → step s = .next t → t.clockInv ∧ s.lastNow ≤ t.lastNow

/-- R11: "nothing in the core changes a parameter at run time". That a step takes the operation presented first
off the port and leaves the others (`t.port = s.port.tail`) is the model's choice (log entry 1, for R62 and
R67). -/
def Obligations.ConfigurationIsNeverWritten : Prop :=
  ∀ s t : State, step s = .next t →
    t.cfg = s.cfg ∧ t.port = s.port.tail

/-- R69: the four queries and the six codec functions change no state: they return a result and emit
nothing. -/
def Obligations.QueriesChangeNoState : Prop :=
  ∀ (i : Instr) (s t : State),
    ((∃ c, i = .faultIsActive c) ∨ i = .faultCount ∨ i = .faultFlags ∨ i = .faultMostRecent ∨
      (∃ bs, i = .checksum bs) ∨ (∃ k bs, i = .validateChecksum k bs) ∨ (∃ v c, i = .buildVc v c) ∨
      (∃ b, i = .extractVersion b) ∨ (∃ b, i = .extractCounter b) ∨ (∃ r l, i = .validateCounter r l)) →
    exec i s = .next t →
    t = { s with out := ⟨t.out.result, []⟩ } ∧ exec i t = .next t
end

