-- ==== Sys2Proof/Laws/Codec.lean ====
section
/-! SUPPORT. The bit and byte lemmas of the codec, the operands and the decoder, each said once. -/

namespace Sys2Proof

open Sys2Proof.Machine

/-! ## Bits -/

/-- The low part of a concatenation. -/
theorem extractLsb'_append_lo {n m : Nat} (x : BitVec n) (y : BitVec m) :
    (x ++ y).extractLsb' 0 m = y := by
  ext i hi
  simp [BitVec.getLsbD_append, hi]

/-- The high part of a concatenation. -/
theorem extractLsb'_append_hi {n m : Nat} (x : BitVec n) (y : BitVec m) :
    (x ++ y).extractLsb' m n = x := by
  ext i hi
  simp [BitVec.getLsbD_append, hi]

/-- Two adjacent slices put together again. -/
theorem append_extractLsb' {w : Nat} (n m k : Nat) (x : BitVec w) :
    x.extractLsb' (k + m) n ++ x.extractLsb' k m = x.extractLsb' k (n + m) := by
  ext i hi
  simp only [BitVec.getElem_append, BitVec.getElem_extractLsb']
  by_cases h : i < m
  · simp [h]
  · simp only [h, dif_neg, not_false_iff]
    congr 1
    omega

@[simp] theorem extractVersion_buildVc (v c : Nib) : extractVersion (buildVc v c) = v :=
  extractLsb'_append_hi v c

@[simp] theorem extractCounter_buildVc (v c : Nib) : extractCounter (buildVc v c) = c :=
  extractLsb'_append_lo v c

/-- R125: unpacking and packing again gives the byte. -/
@[simp] theorem buildVc_extract (b : Byte) : buildVc (extractVersion b) (extractCounter b) = b := by
  unfold buildVc extractVersion extractCounter
  rw [append_extractLsb' 4 4 0 b, BitVec.extractLsb'_eq_self]

/-- The four bytes of a time spell it. -/
@[simp] theorem timeOf_bytes (t : Time) :
    timeOf (t.extractLsb' 0 8) (t.extractLsb' 8 8) (t.extractLsb' 16 8) (t.extractLsb' 24 8) = t := by
  ext i hi
  simp only [timeOf]
  grind

@[simp] theorem nibOf_nibByte (n : Nib) : nibOf (nibByte n) = some n := by
  unfold nibOf nibByte
  rw [extractLsb'_append_hi, extractLsb'_append_lo]
  rfl

@[simp] theorem interiorModeBits_byte (b : Nib) (g m : BitVec 2) :
    interiorModeBits (interiorByte b g m) = m := extractLsb'_append_lo (b ++ g) m

@[simp] theorem interiorBrightnessBits_byte (b : Nib) (g m : BitVec 2) :
    interiorBrightnessBits (interiorByte b g m) = b := by
  unfold interiorBrightnessBits interiorByte
  ext i hi
  simp only [BitVec.getElem_extractLsb', BitVec.getLsbD_append]
  simp [hi, show ¬ 4 + i < 2 by omega, show ¬ 4 + i - 2 < 2 by omega, show 4 + i - 2 - 2 = i by omega]

@[simp] theorem interiorIgnoredBits_byte (b : Nib) (g m : BitVec 2) :
    interiorIgnoredBits (interiorByte b g m) = g := by
  unfold interiorIgnoredBits interiorByte
  ext i hi
  simp only [BitVec.getElem_extractLsb', BitVec.getLsbD_append]
  simp [hi, show ¬ 2 + i < 2 by omega, show 2 + i - 2 = i by omega]

@[simp] theorem interiorCmd_off (b : Nib) (g : BitVec 2) :
    interiorCmd (interiorByte b g codeIntOff) = some .off := by
  simp [interiorCmd]

@[simp] theorem interiorCmd_on (b : Nib) (g : BitVec 2) :
    interiorCmd (interiorByte b g codeIntOn) = some (.on b) := by
  simp [interiorCmd, codeIntOn, codeIntOff]

@[simp] theorem interiorCmd_auto (b : Nib) (g : BitVec 2) :
    interiorCmd (interiorByte b g codeIntAuto) = some .auto := by
  simp [interiorCmd, codeIntOn, codeIntOff, codeIntAuto]

theorem interiorByte_on_ne_zero (b : Nib) (g : BitVec 2) : interiorByte b g codeIntOn ≠ 0 := by
  intro h
  have := congrArg interiorModeBits h
  rw [interiorModeBits_byte] at this
  revert this
  decide

theorem interiorByte_auto_ne_zero (b : Nib) (g : BitVec 2) : interiorByte b g codeIntAuto ≠ 0 := by
  intro h
  have := congrArg interiorModeBits h
  rw [interiorModeBits_byte] at this
  revert this
  decide

@[simp] theorem headlightCmd_code (c : HeadlightCmd) : headlightCmd c.code = some c := by
  cases c <;> decide

theorem headlightCmd_eq_some {b : Byte} {c : HeadlightCmd} (h : headlightCmd b = some c) : b = c.code := by
  revert h
  unfold headlightCmd
  repeat' split
  all_goals first | (rintro ⟨⟩; assumption) | simp

/-! ## Frame words -/

theorem timeBytes_reverse (t : Time) : (timeBytes t).reverse =
    [t.extractLsb' 24 8, t.extractLsb' 16 8, t.extractLsb' 8 8, t.extractLsb' 0 8] := rfl

/-- R85: a frame word with its time reads back as the frame and the time. -/
theorem decodeFrameBytes_encode (f : Frame) (now : Time) (h : f.data.length ≤ 8) :
    decodeFrameBytes (encodeFrameBytes f now).reverse = .ok (spell f now) := by
  obtain ⟨id, data⟩ := f
  rw [encodeFrameBytes, List.reverse_reverse, timeBytes_reverse]
  simp only [List.cons_append, List.nil_append, decodeFrameBytes, frameHeadHi, frameHeadLo]
  have h1 : (0#1 ++ id.extractLsb' 4 7 : BitVec 8).extractLsb' 7 1 = 0 := extractLsb'_append_hi _ _
  have h2 : (0#1 ++ id.extractLsb' 4 7 : BitVec 8).extractLsb' 0 7 = id.extractLsb' 4 7 :=
    extractLsb'_append_lo _ _
  have h3 : ∀ n, (id.extractLsb' 0 4 ++ BitVec.ofNat 4 n : BitVec 8).extractLsb' 4 4 = id.extractLsb' 0 4 :=
    fun n => extractLsb'_append_hi _ _
  have h4 : ∀ n, (id.extractLsb' 0 4 ++ BitVec.ofNat 4 n : BitVec 8).extractLsb' 0 4 = BitVec.ofNat 4 n :=
    fun n => extractLsb'_append_lo _ _
  have h5 : id.extractLsb' 4 7 ++ id.extractLsb' 0 4 = id := by
    have := append_extractLsb' 7 4 0 id
    rw [BitVec.extractLsb'_eq_self] at this
    exact this
  have h6 : (BitVec.ofNat 4 data.length).toNat = data.length := by
    have h : data.length ≤ 8 := h
    simp; omega
  rw [h1, h2, h3, h4, h5, h6, timeOf_bytes]
  have h : data.length ≤ 8 := h
  simp [h]

/-- The packet of a frame row reads as the row its frame is spelled by. -/
theorem decode_encode_frame {i : Instr} {f : Frame} {now : Time} (hf : i.frame? = some (f, now))
    (h : f.data.length ≤ 8) : decode (encode i) = .ok (spell f now) := by
  unfold encode
  rw [hf]
  exact decodeFrameBytes_encode f now h

/-- The packet of a port operation is read by its OPSEL. -/
theorem decode_encode_operation {i : Instr} {sel : Byte} {ops : List Byte} (hf : i.frame? = none)
    (ho : i.operation? = some (sel, ops)) : decode (encode i) = decodeOperation sel ops := by
  unfold encode
  rw [hf, ho]
  rfl

/-- The operand bytes of ROUTE read back as the frame and the time. -/
theorem opFrame_routeBytes (f : Frame) (now : Time) (h : f.data.length ≤ 8) :
    opFrame (routeBytes f now) = .ok (.route f now) := by
  obtain ⟨id, data⟩ := f
  have h : data.length ≤ 8 := h
  simp only [routeBytes, timeBytes, List.cons_append, List.nil_append, opFrame]
  have h1 : (0#5 ++ id.extractLsb' 8 3 : BitVec 8).extractLsb' 3 5 = 0#5 := extractLsb'_append_hi _ _
  have h2 : (0#5 ++ id.extractLsb' 8 3 : BitVec 8).extractLsb' 0 3 = id.extractLsb' 8 3 :=
    extractLsb'_append_lo _ _
  have h3 : id.extractLsb' 8 3 ++ id.extractLsb' 0 8 = id := by
    have := append_extractLsb' 3 8 0 id
    rw [BitVec.extractLsb'_eq_self] at this
    exact this
  have h4 : (BitVec.ofNat 8 data.length).toNat = data.length := by simp; omega
  rw [h1, h2, h3, h4, timeOf_bytes]
  simp [h]

end Sys2Proof
end

