-- ==== Sys2Proof/Laws/State.lean ====
section
/-! SUPPORT. One lemma per field per named update of State, and the read-after-write lemmas of the indexed
fields, so that no later proof unfolds an update. -/

namespace Sys2Proof.Machine

/-! ## Indexed fields -/

/-- R40: the record just written is read back. -/
@[simp] theorem ValRecs.get_put_same (v : ValRecs) (ch : Channel) (r : ValRec) :
    (v.put ch r).get ch = r := by cases ch <;> rfl

/-- R40: the other channels' records are untouched. -/
theorem ValRecs.get_put_ne (v : ValRecs) {ch ch' : Channel} (r : ValRec) (h : ch' ≠ ch) :
    (v.put ch r).get ch' = v.get ch' := by cases ch <;> cases ch' <;> first | rfl | exact absurd rfl h

@[simp] theorem ValRecs.put_put (v : ValRecs) (ch : Channel) (r r' : ValRec) :
    (v.put ch r).put ch r' = v.put ch r' := by cases ch <;> rfl

/-- R274: the bumped counter is one higher, modulo 16. -/
@[simp] theorem TxCtrs.get_bump_same (t : TxCtrs) (ch : TxChannel) :
    (t.bump ch).get ch = t.get ch + 1 := by cases ch <;> rfl

/-- R274: the other counters are untouched. -/
theorem TxCtrs.get_bump_ne (t : TxCtrs) {ch ch' : TxChannel} (h : ch' ≠ ch) :
    (t.bump ch).get ch' = t.get ch' := by cases ch <;> cases ch' <;> first | rfl | exact absurd rfl h

@[simp] theorem Locks.get_mapAll (l : Locks) (f : LockState → LockState) (i : DoorNo) :
    (l.mapAll f).get i = f (l.get i) := by
  unfold Locks.get Locks.mapAll
  split <;> [rfl; split <;> [rfl; split <;> rfl]]

theorem Locks.get_modify (l : Locks) (f : LockState → LockState) (i j : DoorNo) :
    (l.modify i f).get j = if j = i then f (l.get i) else l.get j := by
  have hi : i = 0 ∨ i = 1 ∨ i = 2 ∨ i = 3 := by revert i; decide
  have hj : j = 0 ∨ j = 1 ∨ j = 2 ∨ j = 3 := by revert j; decide
  rcases hi with rfl | rfl | rfl | rfl <;> rcases hj with rfl | rfl | rfl | rfl <;> rfl

/-! ## State.begun -/

@[simp] theorem State.begun_vr (s : State) : s.begun.vr = s.vr := rfl
@[simp] theorem State.begun_lock (s : State) : s.begun.lock = s.lock := rfl
@[simp] theorem State.begun_doorOpen (s : State) : s.begun.doorOpen = s.doorOpen := rfl
@[simp] theorem State.begun_headlightMode (s : State) : s.begun.headlightMode = s.headlightMode := rfl
@[simp] theorem State.begun_highBeam (s : State) : s.begun.highBeam = s.highBeam := rfl
@[simp] theorem State.begun_headlightOutput (s : State) : s.begun.headlightOutput = s.headlightOutput := rfl
@[simp] theorem State.begun_interiorMode (s : State) : s.begun.interiorMode = s.interiorMode := rfl
@[simp] theorem State.begun_interiorBrightness (s : State) : s.begun.interiorBrightness = s.interiorBrightness := rfl
@[simp] theorem State.begun_ambientSample (s : State) : s.begun.ambientSample = s.ambientSample := rfl
@[simp] theorem State.begun_ambientTime (s : State) : s.begun.ambientTime = s.ambientTime := rfl
@[simp] theorem State.begun_turnMode (s : State) : s.begun.turnMode = s.turnMode := rfl
@[simp] theorem State.begun_lampOn (s : State) : s.begun.lampOn = s.lampOn := rfl
@[simp] theorem State.begun_flashCount (s : State) : s.begun.flashCount = s.flashCount := rfl
@[simp] theorem State.begun_lastToggle (s : State) : s.begun.lastToggle = s.lastToggle := rfl
@[simp] theorem State.begun_records (s : State) : s.begun.records = s.records := rfl
@[simp] theorem State.begun_flags (s : State) : s.begun.flags = s.flags := rfl
@[simp] theorem State.begun_mostRecent (s : State) : s.begun.mostRecent = s.mostRecent := rfl
@[simp] theorem State.begun_recentTime (s : State) : s.begun.recentTime = s.recentTime := rfl
@[simp] theorem State.begun_txCtr (s : State) : s.begun.txCtr = s.txCtr := rfl
@[simp] theorem State.begun_lastFast (s : State) : s.begun.lastFast = s.lastFast := rfl
@[simp] theorem State.begun_lastStatus (s : State) : s.begun.lastStatus = s.lastStatus := rfl
@[simp] theorem State.begun_lastSlow (s : State) : s.begun.lastSlow = s.lastSlow := rfl
@[simp] theorem State.begun_cfg (s : State) : s.begun.cfg = s.cfg := rfl
@[simp] theorem State.begun_lastNow (s : State) : s.begun.lastNow = s.lastNow := rfl
@[simp] theorem State.begun_port (s : State) : s.begun.port = s.port := rfl
@[simp] theorem State.begun_out (s : State) : s.begun.out = ⟨.none, []⟩ := rfl

/-! ## State.returning -/

@[simp] theorem State.returning_vr (v : OpResult) (s : State) : (s.returning v).vr = s.vr := rfl
@[simp] theorem State.returning_lock (v : OpResult) (s : State) : (s.returning v).lock = s.lock := rfl
@[simp] theorem State.returning_doorOpen (v : OpResult) (s : State) : (s.returning v).doorOpen = s.doorOpen := rfl
@[simp] theorem State.returning_headlightMode (v : OpResult) (s : State) : (s.returning v).headlightMode = s.headlightMode := rfl
@[simp] theorem State.returning_highBeam (v : OpResult) (s : State) : (s.returning v).highBeam = s.highBeam := rfl
@[simp] theorem State.returning_headlightOutput (v : OpResult) (s : State) : (s.returning v).headlightOutput = s.headlightOutput := rfl
@[simp] theorem State.returning_interiorMode (v : OpResult) (s : State) : (s.returning v).interiorMode = s.interiorMode := rfl
@[simp] theorem State.returning_interiorBrightness (v : OpResult) (s : State) : (s.returning v).interiorBrightness = s.interiorBrightness := rfl
@[simp] theorem State.returning_ambientSample (v : OpResult) (s : State) : (s.returning v).ambientSample = s.ambientSample := rfl
@[simp] theorem State.returning_ambientTime (v : OpResult) (s : State) : (s.returning v).ambientTime = s.ambientTime := rfl
@[simp] theorem State.returning_turnMode (v : OpResult) (s : State) : (s.returning v).turnMode = s.turnMode := rfl
@[simp] theorem State.returning_lampOn (v : OpResult) (s : State) : (s.returning v).lampOn = s.lampOn := rfl
@[simp] theorem State.returning_flashCount (v : OpResult) (s : State) : (s.returning v).flashCount = s.flashCount := rfl
@[simp] theorem State.returning_lastToggle (v : OpResult) (s : State) : (s.returning v).lastToggle = s.lastToggle := rfl
@[simp] theorem State.returning_records (v : OpResult) (s : State) : (s.returning v).records = s.records := rfl
@[simp] theorem State.returning_flags (v : OpResult) (s : State) : (s.returning v).flags = s.flags := rfl
@[simp] theorem State.returning_mostRecent (v : OpResult) (s : State) : (s.returning v).mostRecent = s.mostRecent := rfl
@[simp] theorem State.returning_recentTime (v : OpResult) (s : State) : (s.returning v).recentTime = s.recentTime := rfl
@[simp] theorem State.returning_txCtr (v : OpResult) (s : State) : (s.returning v).txCtr = s.txCtr := rfl
@[simp] theorem State.returning_lastFast (v : OpResult) (s : State) : (s.returning v).lastFast = s.lastFast := rfl
@[simp] theorem State.returning_lastStatus (v : OpResult) (s : State) : (s.returning v).lastStatus = s.lastStatus := rfl
@[simp] theorem State.returning_lastSlow (v : OpResult) (s : State) : (s.returning v).lastSlow = s.lastSlow := rfl
@[simp] theorem State.returning_cfg (v : OpResult) (s : State) : (s.returning v).cfg = s.cfg := rfl
@[simp] theorem State.returning_lastNow (v : OpResult) (s : State) : (s.returning v).lastNow = s.lastNow := rfl
@[simp] theorem State.returning_port (v : OpResult) (s : State) : (s.returning v).port = s.port := rfl
@[simp] theorem State.returning_out (v : OpResult) (s : State) : (s.returning v).out = { s.out with result := v } := rfl

/-! ## State.emitting -/

@[simp] theorem State.emitting_vr (f : Frame) (s : State) : (s.emitting f).vr = s.vr := rfl
@[simp] theorem State.emitting_lock (f : Frame) (s : State) : (s.emitting f).lock = s.lock := rfl
@[simp] theorem State.emitting_doorOpen (f : Frame) (s : State) : (s.emitting f).doorOpen = s.doorOpen := rfl
@[simp] theorem State.emitting_headlightMode (f : Frame) (s : State) : (s.emitting f).headlightMode = s.headlightMode := rfl
@[simp] theorem State.emitting_highBeam (f : Frame) (s : State) : (s.emitting f).highBeam = s.highBeam := rfl
@[simp] theorem State.emitting_headlightOutput (f : Frame) (s : State) : (s.emitting f).headlightOutput = s.headlightOutput := rfl
@[simp] theorem State.emitting_interiorMode (f : Frame) (s : State) : (s.emitting f).interiorMode = s.interiorMode := rfl
@[simp] theorem State.emitting_interiorBrightness (f : Frame) (s : State) : (s.emitting f).interiorBrightness = s.interiorBrightness := rfl
@[simp] theorem State.emitting_ambientSample (f : Frame) (s : State) : (s.emitting f).ambientSample = s.ambientSample := rfl
@[simp] theorem State.emitting_ambientTime (f : Frame) (s : State) : (s.emitting f).ambientTime = s.ambientTime := rfl
@[simp] theorem State.emitting_turnMode (f : Frame) (s : State) : (s.emitting f).turnMode = s.turnMode := rfl
@[simp] theorem State.emitting_lampOn (f : Frame) (s : State) : (s.emitting f).lampOn = s.lampOn := rfl
@[simp] theorem State.emitting_flashCount (f : Frame) (s : State) : (s.emitting f).flashCount = s.flashCount := rfl
@[simp] theorem State.emitting_lastToggle (f : Frame) (s : State) : (s.emitting f).lastToggle = s.lastToggle := rfl
@[simp] theorem State.emitting_records (f : Frame) (s : State) : (s.emitting f).records = s.records := rfl
@[simp] theorem State.emitting_flags (f : Frame) (s : State) : (s.emitting f).flags = s.flags := rfl
@[simp] theorem State.emitting_mostRecent (f : Frame) (s : State) : (s.emitting f).mostRecent = s.mostRecent := rfl
@[simp] theorem State.emitting_recentTime (f : Frame) (s : State) : (s.emitting f).recentTime = s.recentTime := rfl
@[simp] theorem State.emitting_txCtr (f : Frame) (s : State) : (s.emitting f).txCtr = s.txCtr := rfl
@[simp] theorem State.emitting_lastFast (f : Frame) (s : State) : (s.emitting f).lastFast = s.lastFast := rfl
@[simp] theorem State.emitting_lastStatus (f : Frame) (s : State) : (s.emitting f).lastStatus = s.lastStatus := rfl
@[simp] theorem State.emitting_lastSlow (f : Frame) (s : State) : (s.emitting f).lastSlow = s.lastSlow := rfl
@[simp] theorem State.emitting_cfg (f : Frame) (s : State) : (s.emitting f).cfg = s.cfg := rfl
@[simp] theorem State.emitting_lastNow (f : Frame) (s : State) : (s.emitting f).lastNow = s.lastNow := rfl
@[simp] theorem State.emitting_port (f : Frame) (s : State) : (s.emitting f).port = s.port := rfl
@[simp] theorem State.emitting_out (f : Frame) (s : State) : (s.emitting f).out = { s.out with frames := s.out.frames ++ [f] } := rfl

/-! ## noteReport -/

@[simp] theorem noteReport_vr (c : Byte) (now : Time) (s : State) : (noteReport c now s).vr = s.vr := rfl
@[simp] theorem noteReport_lock (c : Byte) (now : Time) (s : State) : (noteReport c now s).lock = s.lock := rfl
@[simp] theorem noteReport_doorOpen (c : Byte) (now : Time) (s : State) : (noteReport c now s).doorOpen = s.doorOpen := rfl
@[simp] theorem noteReport_headlightMode (c : Byte) (now : Time) (s : State) : (noteReport c now s).headlightMode = s.headlightMode := rfl
@[simp] theorem noteReport_highBeam (c : Byte) (now : Time) (s : State) : (noteReport c now s).highBeam = s.highBeam := rfl
@[simp] theorem noteReport_headlightOutput (c : Byte) (now : Time) (s : State) : (noteReport c now s).headlightOutput = s.headlightOutput := rfl
@[simp] theorem noteReport_interiorMode (c : Byte) (now : Time) (s : State) : (noteReport c now s).interiorMode = s.interiorMode := rfl
@[simp] theorem noteReport_interiorBrightness (c : Byte) (now : Time) (s : State) : (noteReport c now s).interiorBrightness = s.interiorBrightness := rfl
@[simp] theorem noteReport_ambientSample (c : Byte) (now : Time) (s : State) : (noteReport c now s).ambientSample = s.ambientSample := rfl
@[simp] theorem noteReport_ambientTime (c : Byte) (now : Time) (s : State) : (noteReport c now s).ambientTime = s.ambientTime := rfl
@[simp] theorem noteReport_turnMode (c : Byte) (now : Time) (s : State) : (noteReport c now s).turnMode = s.turnMode := rfl
@[simp] theorem noteReport_lampOn (c : Byte) (now : Time) (s : State) : (noteReport c now s).lampOn = s.lampOn := rfl
@[simp] theorem noteReport_flashCount (c : Byte) (now : Time) (s : State) : (noteReport c now s).flashCount = s.flashCount := rfl
@[simp] theorem noteReport_lastToggle (c : Byte) (now : Time) (s : State) : (noteReport c now s).lastToggle = s.lastToggle := rfl
@[simp] theorem noteReport_records (c : Byte) (now : Time) (s : State) : (noteReport c now s).records = s.records := rfl
@[simp] theorem noteReport_flags (c : Byte) (now : Time) (s : State) : (noteReport c now s).flags = setFlag s.flags c := rfl
@[simp] theorem noteReport_mostRecent (c : Byte) (now : Time) (s : State) : (noteReport c now s).mostRecent = c := rfl
@[simp] theorem noteReport_recentTime (c : Byte) (now : Time) (s : State) : (noteReport c now s).recentTime = now := rfl
@[simp] theorem noteReport_txCtr (c : Byte) (now : Time) (s : State) : (noteReport c now s).txCtr = s.txCtr := rfl
@[simp] theorem noteReport_lastFast (c : Byte) (now : Time) (s : State) : (noteReport c now s).lastFast = s.lastFast := rfl
@[simp] theorem noteReport_lastStatus (c : Byte) (now : Time) (s : State) : (noteReport c now s).lastStatus = s.lastStatus := rfl
@[simp] theorem noteReport_lastSlow (c : Byte) (now : Time) (s : State) : (noteReport c now s).lastSlow = s.lastSlow := rfl
@[simp] theorem noteReport_cfg (c : Byte) (now : Time) (s : State) : (noteReport c now s).cfg = s.cfg := rfl
@[simp] theorem noteReport_lastNow (c : Byte) (now : Time) (s : State) : (noteReport c now s).lastNow = s.lastNow := rfl
@[simp] theorem noteReport_port (c : Byte) (now : Time) (s : State) : (noteReport c now s).port = s.port := rfl
@[simp] theorem noteReport_out (c : Byte) (now : Time) (s : State) : (noteReport c now s).out = s.out := rfl

/-! ## clearAllFaults -/

@[simp] theorem clearAllFaults_vr (s : State) : (clearAllFaults s).vr = s.vr := rfl
@[simp] theorem clearAllFaults_lock (s : State) : (clearAllFaults s).lock = s.lock := rfl
@[simp] theorem clearAllFaults_doorOpen (s : State) : (clearAllFaults s).doorOpen = s.doorOpen := rfl
@[simp] theorem clearAllFaults_headlightMode (s : State) : (clearAllFaults s).headlightMode = s.headlightMode := rfl
@[simp] theorem clearAllFaults_highBeam (s : State) : (clearAllFaults s).highBeam = s.highBeam := rfl
@[simp] theorem clearAllFaults_headlightOutput (s : State) : (clearAllFaults s).headlightOutput = s.headlightOutput := rfl
@[simp] theorem clearAllFaults_interiorMode (s : State) : (clearAllFaults s).interiorMode = s.interiorMode := rfl
@[simp] theorem clearAllFaults_interiorBrightness (s : State) : (clearAllFaults s).interiorBrightness = s.interiorBrightness := rfl
@[simp] theorem clearAllFaults_ambientSample (s : State) : (clearAllFaults s).ambientSample = s.ambientSample := rfl
@[simp] theorem clearAllFaults_ambientTime (s : State) : (clearAllFaults s).ambientTime = s.ambientTime := rfl
@[simp] theorem clearAllFaults_turnMode (s : State) : (clearAllFaults s).turnMode = s.turnMode := rfl
@[simp] theorem clearAllFaults_lampOn (s : State) : (clearAllFaults s).lampOn = s.lampOn := rfl
@[simp] theorem clearAllFaults_flashCount (s : State) : (clearAllFaults s).flashCount = s.flashCount := rfl
@[simp] theorem clearAllFaults_lastToggle (s : State) : (clearAllFaults s).lastToggle = s.lastToggle := rfl
@[simp] theorem clearAllFaults_records (s : State) : (clearAllFaults s).records = [] := rfl
@[simp] theorem clearAllFaults_flags (s : State) : (clearAllFaults s).flags = 0 := rfl
@[simp] theorem clearAllFaults_mostRecent (s : State) : (clearAllFaults s).mostRecent = s.mostRecent := rfl
@[simp] theorem clearAllFaults_recentTime (s : State) : (clearAllFaults s).recentTime = s.recentTime := rfl
@[simp] theorem clearAllFaults_txCtr (s : State) : (clearAllFaults s).txCtr = s.txCtr := rfl
@[simp] theorem clearAllFaults_lastFast (s : State) : (clearAllFaults s).lastFast = s.lastFast := rfl
@[simp] theorem clearAllFaults_lastStatus (s : State) : (clearAllFaults s).lastStatus = s.lastStatus := rfl
@[simp] theorem clearAllFaults_lastSlow (s : State) : (clearAllFaults s).lastSlow = s.lastSlow := rfl
@[simp] theorem clearAllFaults_cfg (s : State) : (clearAllFaults s).cfg = s.cfg := rfl
@[simp] theorem clearAllFaults_lastNow (s : State) : (clearAllFaults s).lastNow = s.lastNow := rfl
@[simp] theorem clearAllFaults_port (s : State) : (clearAllFaults s).port = s.port := rfl
@[simp] theorem clearAllFaults_out (s : State) : (clearAllFaults s).out = s.out := rfl

/-! ## doorTick -/

@[simp] theorem doorTick_vr (s : State) : (doorTick s).vr = s.vr := rfl
@[simp] theorem doorTick_lock (s : State) : (doorTick s).lock = s.lock.mapAll advanceLock := rfl
@[simp] theorem doorTick_doorOpen (s : State) : (doorTick s).doorOpen = s.doorOpen := rfl
@[simp] theorem doorTick_headlightMode (s : State) : (doorTick s).headlightMode = s.headlightMode := rfl
@[simp] theorem doorTick_highBeam (s : State) : (doorTick s).highBeam = s.highBeam := rfl
@[simp] theorem doorTick_headlightOutput (s : State) : (doorTick s).headlightOutput = s.headlightOutput := rfl
@[simp] theorem doorTick_interiorMode (s : State) : (doorTick s).interiorMode = s.interiorMode := rfl
@[simp] theorem doorTick_interiorBrightness (s : State) : (doorTick s).interiorBrightness = s.interiorBrightness := rfl
@[simp] theorem doorTick_ambientSample (s : State) : (doorTick s).ambientSample = s.ambientSample := rfl
@[simp] theorem doorTick_ambientTime (s : State) : (doorTick s).ambientTime = s.ambientTime := rfl
@[simp] theorem doorTick_turnMode (s : State) : (doorTick s).turnMode = s.turnMode := rfl
@[simp] theorem doorTick_lampOn (s : State) : (doorTick s).lampOn = s.lampOn := rfl
@[simp] theorem doorTick_flashCount (s : State) : (doorTick s).flashCount = s.flashCount := rfl
@[simp] theorem doorTick_lastToggle (s : State) : (doorTick s).lastToggle = s.lastToggle := rfl
@[simp] theorem doorTick_records (s : State) : (doorTick s).records = s.records := rfl
@[simp] theorem doorTick_flags (s : State) : (doorTick s).flags = s.flags := rfl
@[simp] theorem doorTick_mostRecent (s : State) : (doorTick s).mostRecent = s.mostRecent := rfl
@[simp] theorem doorTick_recentTime (s : State) : (doorTick s).recentTime = s.recentTime := rfl
@[simp] theorem doorTick_txCtr (s : State) : (doorTick s).txCtr = s.txCtr := rfl
@[simp] theorem doorTick_lastFast (s : State) : (doorTick s).lastFast = s.lastFast := rfl
@[simp] theorem doorTick_lastStatus (s : State) : (doorTick s).lastStatus = s.lastStatus := rfl
@[simp] theorem doorTick_lastSlow (s : State) : (doorTick s).lastSlow = s.lastSlow := rfl
@[simp] theorem doorTick_cfg (s : State) : (doorTick s).cfg = s.cfg := rfl
@[simp] theorem doorTick_lastNow (s : State) : (doorTick s).lastNow = s.lastNow := rfl
@[simp] theorem doorTick_port (s : State) : (doorTick s).port = s.port := rfl
@[simp] theorem doorTick_out (s : State) : (doorTick s).out = s.out := rfl

/-! ## recomputeOutput -/

@[simp] theorem recomputeOutput_vr (s : State) : (recomputeOutput s).vr = s.vr := rfl
@[simp] theorem recomputeOutput_lock (s : State) : (recomputeOutput s).lock = s.lock := rfl
@[simp] theorem recomputeOutput_doorOpen (s : State) : (recomputeOutput s).doorOpen = s.doorOpen := rfl
@[simp] theorem recomputeOutput_headlightMode (s : State) : (recomputeOutput s).headlightMode = s.headlightMode := rfl
@[simp] theorem recomputeOutput_highBeam (s : State) : (recomputeOutput s).highBeam = s.highBeam := rfl
@[simp] theorem recomputeOutput_headlightOutput (s : State) : (recomputeOutput s).headlightOutput = computedOutput s := rfl
@[simp] theorem recomputeOutput_interiorMode (s : State) : (recomputeOutput s).interiorMode = s.interiorMode := rfl
@[simp] theorem recomputeOutput_interiorBrightness (s : State) : (recomputeOutput s).interiorBrightness = s.interiorBrightness := rfl
@[simp] theorem recomputeOutput_ambientSample (s : State) : (recomputeOutput s).ambientSample = s.ambientSample := rfl
@[simp] theorem recomputeOutput_ambientTime (s : State) : (recomputeOutput s).ambientTime = s.ambientTime := rfl
@[simp] theorem recomputeOutput_turnMode (s : State) : (recomputeOutput s).turnMode = s.turnMode := rfl
@[simp] theorem recomputeOutput_lampOn (s : State) : (recomputeOutput s).lampOn = s.lampOn := rfl
@[simp] theorem recomputeOutput_flashCount (s : State) : (recomputeOutput s).flashCount = s.flashCount := rfl
@[simp] theorem recomputeOutput_lastToggle (s : State) : (recomputeOutput s).lastToggle = s.lastToggle := rfl
@[simp] theorem recomputeOutput_records (s : State) : (recomputeOutput s).records = s.records := rfl
@[simp] theorem recomputeOutput_flags (s : State) : (recomputeOutput s).flags = s.flags := rfl
@[simp] theorem recomputeOutput_mostRecent (s : State) : (recomputeOutput s).mostRecent = s.mostRecent := rfl
@[simp] theorem recomputeOutput_recentTime (s : State) : (recomputeOutput s).recentTime = s.recentTime := rfl
@[simp] theorem recomputeOutput_txCtr (s : State) : (recomputeOutput s).txCtr = s.txCtr := rfl
@[simp] theorem recomputeOutput_lastFast (s : State) : (recomputeOutput s).lastFast = s.lastFast := rfl
@[simp] theorem recomputeOutput_lastStatus (s : State) : (recomputeOutput s).lastStatus = s.lastStatus := rfl
@[simp] theorem recomputeOutput_lastSlow (s : State) : (recomputeOutput s).lastSlow = s.lastSlow := rfl
@[simp] theorem recomputeOutput_cfg (s : State) : (recomputeOutput s).cfg = s.cfg := rfl
@[simp] theorem recomputeOutput_lastNow (s : State) : (recomputeOutput s).lastNow = s.lastNow := rfl
@[simp] theorem recomputeOutput_port (s : State) : (recomputeOutput s).port = s.port := rfl
@[simp] theorem recomputeOutput_out (s : State) : (recomputeOutput s).out = s.out := rfl

/-! ## enterTurn -/

@[simp] theorem enterTurn_vr (m : TurnMode) (now : Time) (s : State) : (enterTurn m now s).vr = s.vr := rfl
@[simp] theorem enterTurn_lock (m : TurnMode) (now : Time) (s : State) : (enterTurn m now s).lock = s.lock := rfl
@[simp] theorem enterTurn_doorOpen (m : TurnMode) (now : Time) (s : State) : (enterTurn m now s).doorOpen = s.doorOpen := rfl
@[simp] theorem enterTurn_headlightMode (m : TurnMode) (now : Time) (s : State) : (enterTurn m now s).headlightMode = s.headlightMode := rfl
@[simp] theorem enterTurn_highBeam (m : TurnMode) (now : Time) (s : State) : (enterTurn m now s).highBeam = s.highBeam := rfl
@[simp] theorem enterTurn_headlightOutput (m : TurnMode) (now : Time) (s : State) : (enterTurn m now s).headlightOutput = s.headlightOutput := rfl
@[simp] theorem enterTurn_interiorMode (m : TurnMode) (now : Time) (s : State) : (enterTurn m now s).interiorMode = s.interiorMode := rfl
@[simp] theorem enterTurn_interiorBrightness (m : TurnMode) (now : Time) (s : State) : (enterTurn m now s).interiorBrightness = s.interiorBrightness := rfl
@[simp] theorem enterTurn_ambientSample (m : TurnMode) (now : Time) (s : State) : (enterTurn m now s).ambientSample = s.ambientSample := rfl
@[simp] theorem enterTurn_ambientTime (m : TurnMode) (now : Time) (s : State) : (enterTurn m now s).ambientTime = s.ambientTime := rfl
@[simp] theorem enterTurn_turnMode (m : TurnMode) (now : Time) (s : State) : (enterTurn m now s).turnMode = m := rfl
@[simp] theorem enterTurn_lampOn (m : TurnMode) (now : Time) (s : State) : (enterTurn m now s).lampOn = true := rfl
@[simp] theorem enterTurn_flashCount (m : TurnMode) (now : Time) (s : State) : (enterTurn m now s).flashCount = 0 := rfl
@[simp] theorem enterTurn_lastToggle (m : TurnMode) (now : Time) (s : State) : (enterTurn m now s).lastToggle = now := rfl
@[simp] theorem enterTurn_records (m : TurnMode) (now : Time) (s : State) : (enterTurn m now s).records = s.records := rfl
@[simp] theorem enterTurn_flags (m : TurnMode) (now : Time) (s : State) : (enterTurn m now s).flags = s.flags := rfl
@[simp] theorem enterTurn_mostRecent (m : TurnMode) (now : Time) (s : State) : (enterTurn m now s).mostRecent = s.mostRecent := rfl
@[simp] theorem enterTurn_recentTime (m : TurnMode) (now : Time) (s : State) : (enterTurn m now s).recentTime = s.recentTime := rfl
@[simp] theorem enterTurn_txCtr (m : TurnMode) (now : Time) (s : State) : (enterTurn m now s).txCtr = s.txCtr := rfl
@[simp] theorem enterTurn_lastFast (m : TurnMode) (now : Time) (s : State) : (enterTurn m now s).lastFast = s.lastFast := rfl
@[simp] theorem enterTurn_lastStatus (m : TurnMode) (now : Time) (s : State) : (enterTurn m now s).lastStatus = s.lastStatus := rfl
@[simp] theorem enterTurn_lastSlow (m : TurnMode) (now : Time) (s : State) : (enterTurn m now s).lastSlow = s.lastSlow := rfl
@[simp] theorem enterTurn_cfg (m : TurnMode) (now : Time) (s : State) : (enterTurn m now s).cfg = s.cfg := rfl
@[simp] theorem enterTurn_lastNow (m : TurnMode) (now : Time) (s : State) : (enterTurn m now s).lastNow = s.lastNow := rfl
@[simp] theorem enterTurn_port (m : TurnMode) (now : Time) (s : State) : (enterTurn m now s).port = s.port := rfl
@[simp] theorem enterTurn_out (m : TurnMode) (now : Time) (s : State) : (enterTurn m now s).out = s.out := rfl

/-! ## enterOff -/

@[simp] theorem enterOff_vr (s : State) : (enterOff s).vr = s.vr := rfl
@[simp] theorem enterOff_lock (s : State) : (enterOff s).lock = s.lock := rfl
@[simp] theorem enterOff_doorOpen (s : State) : (enterOff s).doorOpen = s.doorOpen := rfl
@[simp] theorem enterOff_headlightMode (s : State) : (enterOff s).headlightMode = s.headlightMode := rfl
@[simp] theorem enterOff_highBeam (s : State) : (enterOff s).highBeam = s.highBeam := rfl
@[simp] theorem enterOff_headlightOutput (s : State) : (enterOff s).headlightOutput = s.headlightOutput := rfl
@[simp] theorem enterOff_interiorMode (s : State) : (enterOff s).interiorMode = s.interiorMode := rfl
@[simp] theorem enterOff_interiorBrightness (s : State) : (enterOff s).interiorBrightness = s.interiorBrightness := rfl
@[simp] theorem enterOff_ambientSample (s : State) : (enterOff s).ambientSample = s.ambientSample := rfl
@[simp] theorem enterOff_ambientTime (s : State) : (enterOff s).ambientTime = s.ambientTime := rfl
@[simp] theorem enterOff_turnMode (s : State) : (enterOff s).turnMode = .off := rfl
@[simp] theorem enterOff_lampOn (s : State) : (enterOff s).lampOn = false := rfl
@[simp] theorem enterOff_flashCount (s : State) : (enterOff s).flashCount = s.flashCount := rfl
@[simp] theorem enterOff_lastToggle (s : State) : (enterOff s).lastToggle = s.lastToggle := rfl
@[simp] theorem enterOff_records (s : State) : (enterOff s).records = s.records := rfl
@[simp] theorem enterOff_flags (s : State) : (enterOff s).flags = s.flags := rfl
@[simp] theorem enterOff_mostRecent (s : State) : (enterOff s).mostRecent = s.mostRecent := rfl
@[simp] theorem enterOff_recentTime (s : State) : (enterOff s).recentTime = s.recentTime := rfl
@[simp] theorem enterOff_txCtr (s : State) : (enterOff s).txCtr = s.txCtr := rfl
@[simp] theorem enterOff_lastFast (s : State) : (enterOff s).lastFast = s.lastFast := rfl
@[simp] theorem enterOff_lastStatus (s : State) : (enterOff s).lastStatus = s.lastStatus := rfl
@[simp] theorem enterOff_lastSlow (s : State) : (enterOff s).lastSlow = s.lastSlow := rfl
@[simp] theorem enterOff_cfg (s : State) : (enterOff s).cfg = s.cfg := rfl
@[simp] theorem enterOff_lastNow (s : State) : (enterOff s).lastNow = s.lastNow := rfl
@[simp] theorem enterOff_port (s : State) : (enterOff s).port = s.port := rfl
@[simp] theorem enterOff_out (s : State) : (enterOff s).out = s.out := rfl

/-! ## flipLamp -/

@[simp] theorem flipLamp_vr (now : Time) (s : State) : (flipLamp now s).vr = s.vr := rfl
@[simp] theorem flipLamp_lock (now : Time) (s : State) : (flipLamp now s).lock = s.lock := rfl
@[simp] theorem flipLamp_doorOpen (now : Time) (s : State) : (flipLamp now s).doorOpen = s.doorOpen := rfl
@[simp] theorem flipLamp_headlightMode (now : Time) (s : State) : (flipLamp now s).headlightMode = s.headlightMode := rfl
@[simp] theorem flipLamp_highBeam (now : Time) (s : State) : (flipLamp now s).highBeam = s.highBeam := rfl
@[simp] theorem flipLamp_headlightOutput (now : Time) (s : State) : (flipLamp now s).headlightOutput = s.headlightOutput := rfl
@[simp] theorem flipLamp_interiorMode (now : Time) (s : State) : (flipLamp now s).interiorMode = s.interiorMode := rfl
@[simp] theorem flipLamp_interiorBrightness (now : Time) (s : State) : (flipLamp now s).interiorBrightness = s.interiorBrightness := rfl
@[simp] theorem flipLamp_ambientSample (now : Time) (s : State) : (flipLamp now s).ambientSample = s.ambientSample := rfl
@[simp] theorem flipLamp_ambientTime (now : Time) (s : State) : (flipLamp now s).ambientTime = s.ambientTime := rfl
@[simp] theorem flipLamp_turnMode (now : Time) (s : State) : (flipLamp now s).turnMode = s.turnMode := rfl
@[simp] theorem flipLamp_lampOn (now : Time) (s : State) : (flipLamp now s).lampOn = !s.lampOn := rfl
@[simp] theorem flipLamp_flashCount (now : Time) (s : State) : (flipLamp now s).flashCount = if s.lampOn then s.flashCount else s.flashCount + 1 := rfl
@[simp] theorem flipLamp_lastToggle (now : Time) (s : State) : (flipLamp now s).lastToggle = now := rfl
@[simp] theorem flipLamp_records (now : Time) (s : State) : (flipLamp now s).records = s.records := rfl
@[simp] theorem flipLamp_flags (now : Time) (s : State) : (flipLamp now s).flags = s.flags := rfl
@[simp] theorem flipLamp_mostRecent (now : Time) (s : State) : (flipLamp now s).mostRecent = s.mostRecent := rfl
@[simp] theorem flipLamp_recentTime (now : Time) (s : State) : (flipLamp now s).recentTime = s.recentTime := rfl
@[simp] theorem flipLamp_txCtr (now : Time) (s : State) : (flipLamp now s).txCtr = s.txCtr := rfl
@[simp] theorem flipLamp_lastFast (now : Time) (s : State) : (flipLamp now s).lastFast = s.lastFast := rfl
@[simp] theorem flipLamp_lastStatus (now : Time) (s : State) : (flipLamp now s).lastStatus = s.lastStatus := rfl
@[simp] theorem flipLamp_lastSlow (now : Time) (s : State) : (flipLamp now s).lastSlow = s.lastSlow := rfl
@[simp] theorem flipLamp_cfg (now : Time) (s : State) : (flipLamp now s).cfg = s.cfg := rfl
@[simp] theorem flipLamp_lastNow (now : Time) (s : State) : (flipLamp now s).lastNow = s.lastNow := rfl
@[simp] theorem flipLamp_port (now : Time) (s : State) : (flipLamp now s).port = s.port := rfl
@[simp] theorem flipLamp_out (now : Time) (s : State) : (flipLamp now s).out = s.out := rfl

end Sys2Proof.Machine
end

