-- ==== Sys2Proof/Laws/Ops.lean ====
section
/-! SUPPORT. For each shared operation of Machine/Ops.lean what it can do, said once: the fields it leaves
alone, the cases of its outcome, and how it reads the Fault Tracker's list. -/

namespace Sys2Proof.Machine

/-! ## The presented operation -/

/-- An operation without a time always answers (R66). -/
theorem perform_eq_next (f : State → State) (s t : State) :
    perform f s = .next t ↔ t = f s.begun := by
  unfold perform
  constructor
  · intro h; injection h with h; exact h.symm
  · rintro rfl; rfl

/-- An operation at `now` answers exactly when the clock has not gone backwards (R326). -/
theorem performAt_eq_next (now : Time) (f : State → State) (s t : State) :
    performAt now f s = .next t ↔ s.lastNow ≤ now ∧ t = f { s.begun with lastNow := now } := by
  unfold performAt
  split
  next h =>
    constructor
    · intro e; injection e with e; exact ⟨h, e.symm⟩
    · rintro ⟨-, rfl⟩; rfl
  next h => exact ⟨fun e => (nomatch e), fun e => absurd e.1 h⟩

theorem performAt_of_le {now : Time} {s : State} (h : s.lastNow ≤ now) (f : State → State) :
    performAt now f s = .next (f { s.begun with lastNow := now }) := if_pos h

/-! ## The fault list -/

theorem findRecord_code {c : Byte} {rs : List FaultRecord} {r : FaultRecord}
    (h : findRecord c rs = some r) : r.code = c := by
  induction rs with
  | nil => simp [findRecord] at h
  | cons a rs ih =>
    unfold findRecord at h
    split at h
    · simp_all
    · exact ih h

/-- A code is found exactly when some record carries it. -/
theorem findRecord_isSome_iff (c : Byte) (rs : List FaultRecord) :
    (findRecord c rs).isSome = true ↔ ∃ r ∈ rs, r.code = c := by
  induction rs with
  | nil => simp [findRecord]
  | cons a rs ih => by_cases h : a.code = c <;> simp [findRecord, h, ih]

theorem findRecord_bump (c c' : Byte) (now : Time) (rs : List FaultRecord) :
    findRecord c' (bumpRecord c now rs) =
      if c' = c then (findRecord c rs).map (fun r => ⟨r.code, r.firstSeen, now, r.count + 1⟩)
      else findRecord c' rs := by
  induction rs with
  | nil => simp [bumpRecord, findRecord]
  | cons a rs ih =>
    by_cases h : a.code = c <;> by_cases h' : c' = c <;>
      simp_all [bumpRecord, findRecord]
    grind

@[simp] theorem length_bump (c : Byte) (now : Time) (rs : List FaultRecord) :
    (bumpRecord c now rs).length = rs.length := by
  induction rs with
  | nil => rfl
  | cons a rs ih => unfold bumpRecord; split <;> simp [ih]

/-- A bump keeps every record's code. -/
theorem map_code_bump (c : Byte) (now : Time) (rs : List FaultRecord) :
    (bumpRecord c now rs).map FaultRecord.code = rs.map FaultRecord.code := by
  induction rs with
  | nil => rfl
  | cons a rs ih => unfold bumpRecord; split <;> simp [ih]

theorem findRecord_insert (n : FaultRecord) (c : Byte) (rs : List FaultRecord)
    (hn : findRecord n.code rs = none) :
    findRecord c (insertRecord n rs) = if c = n.code then some n else findRecord c rs := by
  induction rs with
  | nil => simp only [insertRecord, findRecord, eq_comm (a := n.code)]
  | cons a rs ih =>
    have ha : a.code ≠ n.code := by intro h; simp [findRecord, h] at hn
    have hr : findRecord n.code rs = none := by simpa [findRecord, ha] using hn
    unfold insertRecord
    split
    · simp only [findRecord.eq_2 c n, eq_comm (a := n.code)]
    · simp only [findRecord, ih hr]
      by_cases h : a.code = c
      · have : c ≠ n.code := h ▸ ha
        simp [h, this]
      · simp [h]

@[simp] theorem length_insert (n : FaultRecord) (rs : List FaultRecord) :
    (insertRecord n rs).length = rs.length + 1 := by
  induction rs with
  | nil => rfl
  | cons a rs ih => unfold insertRecord; split <;> simp [ih]

theorem mem_insert (n r : FaultRecord) (rs : List FaultRecord) :
    r ∈ insertRecord n rs ↔ r = n ∨ r ∈ rs := by
  induction rs with
  | nil => simp [insertRecord]
  | cons a rs ih => unfold insertRecord; split <;> simp [ih]; tauto

theorem findRecord_remove (c c' : Byte) (rs : List FaultRecord) :
    findRecord c' (removeRecord c rs) = if c' = c then none else findRecord c' rs := by
  induction rs with
  | nil => simp [removeRecord, findRecord]
  | cons a rs ih =>
    by_cases h : a.code = c <;> by_cases h' : c' = c <;>
      simp_all [removeRecord, findRecord]
    grind

/-- Removal is a filter by code. -/
theorem removeRecord_eq_filter (c : Byte) (rs : List FaultRecord) :
    removeRecord c rs = rs.filter (fun r => r.code != c) := by
  induction rs with
  | nil => rfl
  | cons a rs ih => by_cases h : a.code = c <;> simp [removeRecord, h, ih]

theorem recordsRising_bump (c : Byte) (now : Time) {rs : List FaultRecord} (h : recordsRising rs) :
    recordsRising (bumpRecord c now rs) := by
  unfold recordsRising at *
  have key : ∀ l : List FaultRecord, l.Pairwise (fun a b => a.code < b.code) ↔
      (l.map FaultRecord.code).Pairwise (· < ·) := fun l => List.pairwise_map.symm
  rw [key, map_code_bump, ← key]
  exact h

theorem recordsRising_insert (n : FaultRecord) {rs : List FaultRecord} (h : recordsRising rs)
    (hn : findRecord n.code rs = none) : recordsRising (insertRecord n rs) := by
  unfold recordsRising at *
  induction rs with
  | nil => simp [insertRecord]
  | cons a rs ih =>
    have ha : a.code ≠ n.code := by intro h; simp [findRecord, h] at hn
    have hr : findRecord n.code rs = none := by simpa [findRecord, ha] using hn
    rw [List.pairwise_cons] at h
    unfold insertRecord
    split
    next hlt =>
      refine List.pairwise_cons.2 ⟨fun x hx => ?_, List.pairwise_cons.2 h⟩
      rcases List.mem_cons.1 hx with rfl | hx
      · exact hlt
      · exact BitVec.lt_trans hlt (h.1 x hx)
    next hge =>
      refine List.pairwise_cons.2 ⟨fun x hx => ?_, ih h.2 hr⟩
      rcases (mem_insert n x rs).1 hx with rfl | hx
      · have : a.code ≠ x.code := ha
        bv_omega
      · exact h.1 x hx

theorem recordsRising_remove (c : Byte) {rs : List FaultRecord} (h : recordsRising rs) :
    recordsRising (removeRecord c rs) := by
  rw [removeRecord_eq_filter]
  exact List.Pairwise.filter _ h

/-! ## Flag bits -/

/-- R141: the flag word after a stored report, bit by bit. -/
theorem getLsbD_setFlag (w : BitVec 16) (c : Byte) (k : Nat) :
    (setFlag w c).getLsbD k = (w.getLsbD k || decide (k = c.toNat ∧ k ≤ 15)) := by
  unfold setFlag flagbit
  by_cases h : c.toNat ≤ 15
  · simp only [h, if_true, BitVec.getLsbD_or, BitVec.getLsbD_shiftLeft]
    by_cases hk : k < 16
    · by_cases hc : k < c.toNat
      · have : k ≠ c.toNat := by omega
        simp [hc, this]
      · by_cases he : k = c.toNat
        · subst he; simp [h, hk]
        · have : k - c.toNat ≠ 0 := by omega
          simp [he, BitVec.getLsbD_one, this]
    · have : ¬ k ≤ 15 := by omega
      simp [hk, this]
  · simp only [h, if_false]
    have : ¬ (k = c.toNat ∧ k ≤ 15) := by omega
    simp [this]

/-- R143: the flag word after a clear, bit by bit. -/
theorem getLsbD_clearFlag (w : BitVec 16) (c : Byte) (k : Nat) :
    (clearFlag w c).getLsbD k = (w.getLsbD k && !decide (k = c.toNat ∧ k ≤ 15)) := by
  unfold clearFlag flagbit
  by_cases hk : k < 16
  · by_cases h : c.toNat ≤ 15
    · simp only [h, if_true, BitVec.getLsbD_and, BitVec.getLsbD_not, BitVec.getLsbD_shiftLeft]
      by_cases hc : k < c.toNat
      · have : k ≠ c.toNat := by omega
        simp [hc, hk, this]
      · by_cases he : k = c.toNat
        · subst he; simp [h, hk]
        · have : k - c.toNat ≠ 0 := by omega
          simp [he, hk, BitVec.getLsbD_one, this]
    · simp only [h, if_false]
      have : ¬ (k = c.toNat ∧ k ≤ 15) := by omega
      simp [this]
  · have : ∀ v : BitVec 16, v.getLsbD k = false := fun v => BitVec.getLsbD_of_ge v k (by omega)
    simp [this]

/-! ## The Fault Tracker's updates -/

/-- R141: every outcome of FAULT_REPORT. -/
theorem reportFault_cases (c : Byte) (now : Time) (s : State) :
    ((findRecord c s.records).isSome = true ∧
      reportFault c now s = noteReport c now { s with records := bumpRecord c now s.records }) ∨
    (findRecord c s.records = none ∧ s.records.length < s.cfg.faultCapacity ∧
      reportFault c now s = noteReport c now { s with records := insertRecord ⟨c, now, now, 1⟩ s.records }) ∨
    (findRecord c s.records = none ∧ s.cfg.faultCapacity ≤ s.records.length ∧ reportFault c now s = s) := by
  unfold reportFault
  split
  · simp_all
  · split <;> simp_all

/-- R143: every outcome of FAULT_CLEAR. -/
theorem clearFault_cases (c : Byte) (s : State) :
    ((findRecord c s.records).isSome = true ∧
      clearFault c s = { s with records := removeRecord c s.records, flags := clearFlag s.flags c }) ∨
    (findRecord c s.records = none ∧ clearFault c s = s) := by
  unfold clearFault
  split <;> simp_all

@[simp] theorem reportFault_vr (c : Byte) (now : Time) (s : State) : (reportFault c now s).vr = s.vr := by
  unfold reportFault; split <;> [rfl; split <;> rfl]
@[simp] theorem reportFault_lock (c : Byte) (now : Time) (s : State) : (reportFault c now s).lock = s.lock := by
  unfold reportFault; split <;> [rfl; split <;> rfl]
@[simp] theorem reportFault_doorOpen (c : Byte) (now : Time) (s : State) : (reportFault c now s).doorOpen = s.doorOpen := by
  unfold reportFault; split <;> [rfl; split <;> rfl]
@[simp] theorem reportFault_headlightMode (c : Byte) (now : Time) (s : State) : (reportFault c now s).headlightMode = s.headlightMode := by
  unfold reportFault; split <;> [rfl; split <;> rfl]
@[simp] theorem reportFault_highBeam (c : Byte) (now : Time) (s : State) : (reportFault c now s).highBeam = s.highBeam := by
  unfold reportFault; split <;> [rfl; split <;> rfl]
@[simp] theorem reportFault_headlightOutput (c : Byte) (now : Time) (s : State) : (reportFault c now s).headlightOutput = s.headlightOutput := by
  unfold reportFault; split <;> [rfl; split <;> rfl]
@[simp] theorem reportFault_interiorMode (c : Byte) (now : Time) (s : State) : (reportFault c now s).interiorMode = s.interiorMode := by
  unfold reportFault; split <;> [rfl; split <;> rfl]
@[simp] theorem reportFault_interiorBrightness (c : Byte) (now : Time) (s : State) : (reportFault c now s).interiorBrightness = s.interiorBrightness := by
  unfold reportFault; split <;> [rfl; split <;> rfl]
@[simp] theorem reportFault_ambientSample (c : Byte) (now : Time) (s : State) : (reportFault c now s).ambientSample = s.ambientSample := by
  unfold reportFault; split <;> [rfl; split <;> rfl]
@[simp] theorem reportFault_ambientTime (c : Byte) (now : Time) (s : State) : (reportFault c now s).ambientTime = s.ambientTime := by
  unfold reportFault; split <;> [rfl; split <;> rfl]
@[simp] theorem reportFault_turnMode (c : Byte) (now : Time) (s : State) : (reportFault c now s).turnMode = s.turnMode := by
  unfold reportFault; split <;> [rfl; split <;> rfl]
@[simp] theorem reportFault_lampOn (c : Byte) (now : Time) (s : State) : (reportFault c now s).lampOn = s.lampOn := by
  unfold reportFault; split <;> [rfl; split <;> rfl]
@[simp] theorem reportFault_flashCount (c : Byte) (now : Time) (s : State) : (reportFault c now s).flashCount = s.flashCount := by
  unfold reportFault; split <;> [rfl; split <;> rfl]
@[simp] theorem reportFault_lastToggle (c : Byte) (now : Time) (s : State) : (reportFault c now s).lastToggle = s.lastToggle := by
  unfold reportFault; split <;> [rfl; split <;> rfl]
@[simp] theorem reportFault_txCtr (c : Byte) (now : Time) (s : State) : (reportFault c now s).txCtr = s.txCtr := by
  unfold reportFault; split <;> [rfl; split <;> rfl]
@[simp] theorem reportFault_lastFast (c : Byte) (now : Time) (s : State) : (reportFault c now s).lastFast = s.lastFast := by
  unfold reportFault; split <;> [rfl; split <;> rfl]
@[simp] theorem reportFault_lastStatus (c : Byte) (now : Time) (s : State) : (reportFault c now s).lastStatus = s.lastStatus := by
  unfold reportFault; split <;> [rfl; split <;> rfl]
@[simp] theorem reportFault_lastSlow (c : Byte) (now : Time) (s : State) : (reportFault c now s).lastSlow = s.lastSlow := by
  unfold reportFault; split <;> [rfl; split <;> rfl]
@[simp] theorem reportFault_cfg (c : Byte) (now : Time) (s : State) : (reportFault c now s).cfg = s.cfg := by
  unfold reportFault; split <;> [rfl; split <;> rfl]
@[simp] theorem reportFault_lastNow (c : Byte) (now : Time) (s : State) : (reportFault c now s).lastNow = s.lastNow := by
  unfold reportFault; split <;> [rfl; split <;> rfl]
@[simp] theorem reportFault_port (c : Byte) (now : Time) (s : State) : (reportFault c now s).port = s.port := by
  unfold reportFault; split <;> [rfl; split <;> rfl]
@[simp] theorem reportFault_out (c : Byte) (now : Time) (s : State) : (reportFault c now s).out = s.out := by
  unfold reportFault; split <;> [rfl; split <;> rfl]

@[simp] theorem clearFault_vr (c : Byte) (s : State) : (clearFault c s).vr = s.vr := by
  unfold clearFault; split <;> rfl
@[simp] theorem clearFault_lock (c : Byte) (s : State) : (clearFault c s).lock = s.lock := by
  unfold clearFault; split <;> rfl
@[simp] theorem clearFault_doorOpen (c : Byte) (s : State) : (clearFault c s).doorOpen = s.doorOpen := by
  unfold clearFault; split <;> rfl
@[simp] theorem clearFault_headlightMode (c : Byte) (s : State) : (clearFault c s).headlightMode = s.headlightMode := by
  unfold clearFault; split <;> rfl
@[simp] theorem clearFault_highBeam (c : Byte) (s : State) : (clearFault c s).highBeam = s.highBeam := by
  unfold clearFault; split <;> rfl
@[simp] theorem clearFault_headlightOutput (c : Byte) (s : State) : (clearFault c s).headlightOutput = s.headlightOutput := by
  unfold clearFault; split <;> rfl
@[simp] theorem clearFault_interiorMode (c : Byte) (s : State) : (clearFault c s).interiorMode = s.interiorMode := by
  unfold clearFault; split <;> rfl
@[simp] theorem clearFault_interiorBrightness (c : Byte) (s : State) : (clearFault c s).interiorBrightness = s.interiorBrightness := by
  unfold clearFault; split <;> rfl
@[simp] theorem clearFault_ambientSample (c : Byte) (s : State) : (clearFault c s).ambientSample = s.ambientSample := by
  unfold clearFault; split <;> rfl
@[simp] theorem clearFault_ambientTime (c : Byte) (s : State) : (clearFault c s).ambientTime = s.ambientTime := by
  unfold clearFault; split <;> rfl
@[simp] theorem clearFault_turnMode (c : Byte) (s : State) : (clearFault c s).turnMode = s.turnMode := by
  unfold clearFault; split <;> rfl
@[simp] theorem clearFault_lampOn (c : Byte) (s : State) : (clearFault c s).lampOn = s.lampOn := by
  unfold clearFault; split <;> rfl
@[simp] theorem clearFault_flashCount (c : Byte) (s : State) : (clearFault c s).flashCount = s.flashCount := by
  unfold clearFault; split <;> rfl
@[simp] theorem clearFault_lastToggle (c : Byte) (s : State) : (clearFault c s).lastToggle = s.lastToggle := by
  unfold clearFault; split <;> rfl
@[simp] theorem clearFault_mostRecent (c : Byte) (s : State) : (clearFault c s).mostRecent = s.mostRecent := by
  unfold clearFault; split <;> rfl
@[simp] theorem clearFault_recentTime (c : Byte) (s : State) : (clearFault c s).recentTime = s.recentTime := by
  unfold clearFault; split <;> rfl
@[simp] theorem clearFault_txCtr (c : Byte) (s : State) : (clearFault c s).txCtr = s.txCtr := by
  unfold clearFault; split <;> rfl
@[simp] theorem clearFault_lastFast (c : Byte) (s : State) : (clearFault c s).lastFast = s.lastFast := by
  unfold clearFault; split <;> rfl
@[simp] theorem clearFault_lastStatus (c : Byte) (s : State) : (clearFault c s).lastStatus = s.lastStatus := by
  unfold clearFault; split <;> rfl
@[simp] theorem clearFault_lastSlow (c : Byte) (s : State) : (clearFault c s).lastSlow = s.lastSlow := by
  unfold clearFault; split <;> rfl
@[simp] theorem clearFault_cfg (c : Byte) (s : State) : (clearFault c s).cfg = s.cfg := by
  unfold clearFault; split <;> rfl
@[simp] theorem clearFault_lastNow (c : Byte) (s : State) : (clearFault c s).lastNow = s.lastNow := by
  unfold clearFault; split <;> rfl
@[simp] theorem clearFault_port (c : Byte) (s : State) : (clearFault c s).port = s.port := by
  unfold clearFault; split <;> rfl
@[simp] theorem clearFault_out (c : Byte) (s : State) : (clearFault c s).out = s.out := by
  unfold clearFault; split <;> rfl

/-- R140: a report writes the tracker's four fields only. -/
theorem reportFault_frame (c : Byte) (now : Time) (s : State) :
    reportFault c now s = { s with
      records := (reportFault c now s).records, flags := (reportFault c now s).flags
      mostRecent := (reportFault c now s).mostRecent, recentTime := (reportFault c now s).recentTime } := by
  unfold reportFault; split <;> [rfl; split <;> rfl]

/-- A report reads the tracker's four fields and the capacity only. -/
theorem reportFault_congr (c : Byte) (now : Time) {s s' : State} (h1 : s.records = s'.records)
    (h2 : s.flags = s'.flags) (h3 : s.mostRecent = s'.mostRecent) (h4 : s.recentTime = s'.recentTime)
    (h5 : s.cfg = s'.cfg) :
    (reportFault c now s).records = (reportFault c now s').records ∧
    (reportFault c now s).flags = (reportFault c now s').flags ∧
    (reportFault c now s).mostRecent = (reportFault c now s').mostRecent ∧
    (reportFault c now s).recentTime = (reportFault c now s').recentTime := by
  unfold reportFault
  rw [h1, h5]
  split
  · simp [h2]
  · split <;> simp [h1, h2, h3, h4]

/-! ## Command validation -/

/-- R166: what a rejection with a fault does: the result is recorded and returned, the fault reported. -/
theorem reject_some (ch : Channel) (res c : Byte) (now : Time) (s : State) :
    reject ch res (some c) now s = reportFault c now { s with
      vr := s.vr.put ch { s.vr.get ch with lastResult := res }
      out := { s.out with result := .code res } } := by
  have h := reportFault_congr c now (s := { s with vr := s.vr.put ch { s.vr.get ch with lastResult := res } })
    (s' := { s with vr := s.vr.put ch { s.vr.get ch with lastResult := res }
                    out := { s.out with result := .code res } }) rfl rfl rfl rfl rfl
  apply State.ext <;> simp [reject, h]

/-- C1: what the one rejection without a fault does. -/
theorem reject_none (ch : Channel) (res : Byte) (now : Time) (s : State) :
    reject ch res none now s = { s with
      vr := s.vr.put ch { s.vr.get ch with lastResult := res }
      out := { s.out with result := .code res } } := rfl

@[simp] theorem reject_lock (ch : Channel) (res : Byte) (fc : Option Byte) (now : Time) (s : State) :
    (reject ch res fc now s).lock = s.lock := by cases fc <;> simp [reject]
@[simp] theorem reject_doorOpen (ch : Channel) (res : Byte) (fc : Option Byte) (now : Time) (s : State) :
    (reject ch res fc now s).doorOpen = s.doorOpen := by cases fc <;> simp [reject]
@[simp] theorem reject_headlightMode (ch : Channel) (res : Byte) (fc : Option Byte) (now : Time) (s : State) :
    (reject ch res fc now s).headlightMode = s.headlightMode := by cases fc <;> simp [reject]
@[simp] theorem reject_highBeam (ch : Channel) (res : Byte) (fc : Option Byte) (now : Time) (s : State) :
    (reject ch res fc now s).highBeam = s.highBeam := by cases fc <;> simp [reject]
@[simp] theorem reject_headlightOutput (ch : Channel) (res : Byte) (fc : Option Byte) (now : Time) (s : State) :
    (reject ch res fc now s).headlightOutput = s.headlightOutput := by cases fc <;> simp [reject]
@[simp] theorem reject_interiorMode (ch : Channel) (res : Byte) (fc : Option Byte) (now : Time) (s : State) :
    (reject ch res fc now s).interiorMode = s.interiorMode := by cases fc <;> simp [reject]
@[simp] theorem reject_interiorBrightness (ch : Channel) (res : Byte) (fc : Option Byte) (now : Time) (s : State) :
    (reject ch res fc now s).interiorBrightness = s.interiorBrightness := by cases fc <;> simp [reject]
@[simp] theorem reject_ambientSample (ch : Channel) (res : Byte) (fc : Option Byte) (now : Time) (s : State) :
    (reject ch res fc now s).ambientSample = s.ambientSample := by cases fc <;> simp [reject]
@[simp] theorem reject_ambientTime (ch : Channel) (res : Byte) (fc : Option Byte) (now : Time) (s : State) :
    (reject ch res fc now s).ambientTime = s.ambientTime := by cases fc <;> simp [reject]
@[simp] theorem reject_turnMode (ch : Channel) (res : Byte) (fc : Option Byte) (now : Time) (s : State) :
    (reject ch res fc now s).turnMode = s.turnMode := by cases fc <;> simp [reject]
@[simp] theorem reject_lampOn (ch : Channel) (res : Byte) (fc : Option Byte) (now : Time) (s : State) :
    (reject ch res fc now s).lampOn = s.lampOn := by cases fc <;> simp [reject]
@[simp] theorem reject_flashCount (ch : Channel) (res : Byte) (fc : Option Byte) (now : Time) (s : State) :
    (reject ch res fc now s).flashCount = s.flashCount := by cases fc <;> simp [reject]
@[simp] theorem reject_lastToggle (ch : Channel) (res : Byte) (fc : Option Byte) (now : Time) (s : State) :
    (reject ch res fc now s).lastToggle = s.lastToggle := by cases fc <;> simp [reject]
@[simp] theorem reject_txCtr (ch : Channel) (res : Byte) (fc : Option Byte) (now : Time) (s : State) :
    (reject ch res fc now s).txCtr = s.txCtr := by cases fc <;> simp [reject]
@[simp] theorem reject_lastFast (ch : Channel) (res : Byte) (fc : Option Byte) (now : Time) (s : State) :
    (reject ch res fc now s).lastFast = s.lastFast := by cases fc <;> simp [reject]
@[simp] theorem reject_lastStatus (ch : Channel) (res : Byte) (fc : Option Byte) (now : Time) (s : State) :
    (reject ch res fc now s).lastStatus = s.lastStatus := by cases fc <;> simp [reject]
@[simp] theorem reject_lastSlow (ch : Channel) (res : Byte) (fc : Option Byte) (now : Time) (s : State) :
    (reject ch res fc now s).lastSlow = s.lastSlow := by cases fc <;> simp [reject]
@[simp] theorem reject_cfg (ch : Channel) (res : Byte) (fc : Option Byte) (now : Time) (s : State) :
    (reject ch res fc now s).cfg = s.cfg := by cases fc <;> simp [reject]
@[simp] theorem reject_lastNow (ch : Channel) (res : Byte) (fc : Option Byte) (now : Time) (s : State) :
    (reject ch res fc now s).lastNow = s.lastNow := by cases fc <;> simp [reject]
@[simp] theorem reject_port (ch : Channel) (res : Byte) (fc : Option Byte) (now : Time) (s : State) :
    (reject ch res fc now s).port = s.port := by cases fc <;> simp [reject]
@[simp] theorem reject_vr (ch : Channel) (res : Byte) (fc : Option Byte) (now : Time) (s : State) :
    (reject ch res fc now s).vr = s.vr.put ch { s.vr.get ch with lastResult := res } := by
  cases fc <;> simp [reject]
@[simp] theorem reject_out (ch : Channel) (res : Byte) (fc : Option Byte) (now : Time) (s : State) :
    (reject ch res fc now s).out = { s.out with result := .code res } := by cases fc <;> simp [reject]

@[simp] theorem accept_lock (ch : Channel) (ctr : Nib) (now : Time) (s : State) :
    (accept ch ctr now s).lock = s.lock := rfl
@[simp] theorem accept_doorOpen (ch : Channel) (ctr : Nib) (now : Time) (s : State) :
    (accept ch ctr now s).doorOpen = s.doorOpen := rfl
@[simp] theorem accept_headlightMode (ch : Channel) (ctr : Nib) (now : Time) (s : State) :
    (accept ch ctr now s).headlightMode = s.headlightMode := rfl
@[simp] theorem accept_highBeam (ch : Channel) (ctr : Nib) (now : Time) (s : State) :
    (accept ch ctr now s).highBeam = s.highBeam := rfl
@[simp] theorem accept_headlightOutput (ch : Channel) (ctr : Nib) (now : Time) (s : State) :
    (accept ch ctr now s).headlightOutput = s.headlightOutput := rfl
@[simp] theorem accept_interiorMode (ch : Channel) (ctr : Nib) (now : Time) (s : State) :
    (accept ch ctr now s).interiorMode = s.interiorMode := rfl
@[simp] theorem accept_interiorBrightness (ch : Channel) (ctr : Nib) (now : Time) (s : State) :
    (accept ch ctr now s).interiorBrightness = s.interiorBrightness := rfl
@[simp] theorem accept_ambientSample (ch : Channel) (ctr : Nib) (now : Time) (s : State) :
    (accept ch ctr now s).ambientSample = s.ambientSample := rfl
@[simp] theorem accept_ambientTime (ch : Channel) (ctr : Nib) (now : Time) (s : State) :
    (accept ch ctr now s).ambientTime = s.ambientTime := rfl
@[simp] theorem accept_turnMode (ch : Channel) (ctr : Nib) (now : Time) (s : State) :
    (accept ch ctr now s).turnMode = s.turnMode := rfl
@[simp] theorem accept_lampOn (ch : Channel) (ctr : Nib) (now : Time) (s : State) :
    (accept ch ctr now s).lampOn = s.lampOn := rfl
@[simp] theorem accept_flashCount (ch : Channel) (ctr : Nib) (now : Time) (s : State) :
    (accept ch ctr now s).flashCount = s.flashCount := rfl
@[simp] theorem accept_lastToggle (ch : Channel) (ctr : Nib) (now : Time) (s : State) :
    (accept ch ctr now s).lastToggle = s.lastToggle := rfl
@[simp] theorem accept_records (ch : Channel) (ctr : Nib) (now : Time) (s : State) :
    (accept ch ctr now s).records = s.records := rfl
@[simp] theorem accept_flags (ch : Channel) (ctr : Nib) (now : Time) (s : State) :
    (accept ch ctr now s).flags = s.flags := rfl
@[simp] theorem accept_mostRecent (ch : Channel) (ctr : Nib) (now : Time) (s : State) :
    (accept ch ctr now s).mostRecent = s.mostRecent := rfl
@[simp] theorem accept_recentTime (ch : Channel) (ctr : Nib) (now : Time) (s : State) :
    (accept ch ctr now s).recentTime = s.recentTime := rfl
@[simp] theorem accept_txCtr (ch : Channel) (ctr : Nib) (now : Time) (s : State) :
    (accept ch ctr now s).txCtr = s.txCtr := rfl
@[simp] theorem accept_lastFast (ch : Channel) (ctr : Nib) (now : Time) (s : State) :
    (accept ch ctr now s).lastFast = s.lastFast := rfl
@[simp] theorem accept_lastStatus (ch : Channel) (ctr : Nib) (now : Time) (s : State) :
    (accept ch ctr now s).lastStatus = s.lastStatus := rfl
@[simp] theorem accept_lastSlow (ch : Channel) (ctr : Nib) (now : Time) (s : State) :
    (accept ch ctr now s).lastSlow = s.lastSlow := rfl
@[simp] theorem accept_cfg (ch : Channel) (ctr : Nib) (now : Time) (s : State) :
    (accept ch ctr now s).cfg = s.cfg := rfl
@[simp] theorem accept_lastNow (ch : Channel) (ctr : Nib) (now : Time) (s : State) :
    (accept ch ctr now s).lastNow = s.lastNow := rfl
@[simp] theorem accept_port (ch : Channel) (ctr : Nib) (now : Time) (s : State) :
    (accept ch ctr now s).port = s.port := rfl
@[simp] theorem accept_vr (ch : Channel) (ctr : Nib) (now : Time) (s : State) :
    (accept ch ctr now s).vr = s.vr.put ch ⟨true, ctr, now, resOk⟩ := rfl
@[simp] theorem accept_out (ch : Channel) (ctr : Nib) (now : Time) (s : State) :
    (accept ch ctr now s).out = { s.out with result := .code resOk } := rfl

/-- R160: every outcome of the validation of a 4-byte frame: a rejection by the checksum, by the counter or
by the channel's steps, or an acceptance. -/
theorem validate_cases (ch : Channel) (op arg vc ck : Byte) (now : Time) (steps : State → Steps) (s : State) :
    (validateChecksum [op, arg, vc] ck = false ∧
      validate ch op arg vc ck now steps s = reject ch resChecksumError (some fcInvalidChecksum) now s) ∨
    (validateChecksum [op, arg, vc] ck = true ∧ (s.vr.get ch).seeded = true ∧
      validateCounter (extractCounter vc) (s.vr.get ch).lastCounter = false ∧
      validate ch op arg vc ck now steps s = reject ch resCounterError (some fcInvalidCounter) now s) ∨
    (validateChecksum [op, arg, vc] ck = true ∧
      ((s.vr.get ch).seeded = true → validateCounter (extractCounter vc) (s.vr.get ch).lastCounter = true) ∧
      ((∃ res fc, steps s = .rejected res fc ∧
          validate ch op arg vc ck now steps s = reject ch res fc now s) ∨
       (∃ s', steps s = .applied s' ∧
          validate ch op arg vc ck now steps s = accept ch (extractCounter vc) now s'))) := by
  unfold validate
  split
  next h => exact .inl ⟨h, rfl⟩
  next h =>
    have h' : validateChecksum [op, arg, vc] ck = true := by simpa using h
    split
    next hc => exact .inr (.inl ⟨h', hc.1, hc.2, rfl⟩)
    next hc =>
      refine .inr (.inr ⟨h', fun hs => ?_, ?_⟩)
      · simpa [hs] using hc
      · cases hst : steps s with
        | rejected res fc => exact .inl ⟨res, fc, rfl, rfl⟩
        | applied s' => exact .inr ⟨s', rfl, rfl⟩

/-- R160, R161: a frame of another length is rejected before its payload is read. -/
theorem handle_of_length (ch : Channel) (f : Frame) (now : Time) (steps : Byte → Byte → State → Steps)
    (s : State) (h : f.data.length ≠ 4) :
    handle ch f now steps s = reject ch resInvalidCommand (some fcInvalidLength) now s := by
  unfold handle
  split
  next heq => simp [heq] at h
  · rfl

/-! ## The transmit tail -/

@[simp] theorem sendFrame_vr (ch : TxChannel) (id : Ident) (b : List Byte) (s : State) :
    (sendFrame ch id b s).vr = s.vr := rfl
@[simp] theorem sendFrame_lock (ch : TxChannel) (id : Ident) (b : List Byte) (s : State) :
    (sendFrame ch id b s).lock = s.lock := rfl
@[simp] theorem sendFrame_doorOpen (ch : TxChannel) (id : Ident) (b : List Byte) (s : State) :
    (sendFrame ch id b s).doorOpen = s.doorOpen := rfl
@[simp] theorem sendFrame_headlightMode (ch : TxChannel) (id : Ident) (b : List Byte) (s : State) :
    (sendFrame ch id b s).headlightMode = s.headlightMode := rfl
@[simp] theorem sendFrame_highBeam (ch : TxChannel) (id : Ident) (b : List Byte) (s : State) :
    (sendFrame ch id b s).highBeam = s.highBeam := rfl
@[simp] theorem sendFrame_headlightOutput (ch : TxChannel) (id : Ident) (b : List Byte) (s : State) :
    (sendFrame ch id b s).headlightOutput = s.headlightOutput := rfl
@[simp] theorem sendFrame_interiorMode (ch : TxChannel) (id : Ident) (b : List Byte) (s : State) :
    (sendFrame ch id b s).interiorMode = s.interiorMode := rfl
@[simp] theorem sendFrame_interiorBrightness (ch : TxChannel) (id : Ident) (b : List Byte) (s : State) :
    (sendFrame ch id b s).interiorBrightness = s.interiorBrightness := rfl
@[simp] theorem sendFrame_ambientSample (ch : TxChannel) (id : Ident) (b : List Byte) (s : State) :
    (sendFrame ch id b s).ambientSample = s.ambientSample := rfl
@[simp] theorem sendFrame_ambientTime (ch : TxChannel) (id : Ident) (b : List Byte) (s : State) :
    (sendFrame ch id b s).ambientTime = s.ambientTime := rfl
@[simp] theorem sendFrame_turnMode (ch : TxChannel) (id : Ident) (b : List Byte) (s : State) :
    (sendFrame ch id b s).turnMode = s.turnMode := rfl
@[simp] theorem sendFrame_lampOn (ch : TxChannel) (id : Ident) (b : List Byte) (s : State) :
    (sendFrame ch id b s).lampOn = s.lampOn := rfl
@[simp] theorem sendFrame_flashCount (ch : TxChannel) (id : Ident) (b : List Byte) (s : State) :
    (sendFrame ch id b s).flashCount = s.flashCount := rfl
@[simp] theorem sendFrame_lastToggle (ch : TxChannel) (id : Ident) (b : List Byte) (s : State) :
    (sendFrame ch id b s).lastToggle = s.lastToggle := rfl
@[simp] theorem sendFrame_records (ch : TxChannel) (id : Ident) (b : List Byte) (s : State) :
    (sendFrame ch id b s).records = s.records := rfl
@[simp] theorem sendFrame_flags (ch : TxChannel) (id : Ident) (b : List Byte) (s : State) :
    (sendFrame ch id b s).flags = s.flags := rfl
@[simp] theorem sendFrame_mostRecent (ch : TxChannel) (id : Ident) (b : List Byte) (s : State) :
    (sendFrame ch id b s).mostRecent = s.mostRecent := rfl
@[simp] theorem sendFrame_recentTime (ch : TxChannel) (id : Ident) (b : List Byte) (s : State) :
    (sendFrame ch id b s).recentTime = s.recentTime := rfl
@[simp] theorem sendFrame_lastFast (ch : TxChannel) (id : Ident) (b : List Byte) (s : State) :
    (sendFrame ch id b s).lastFast = s.lastFast := rfl
@[simp] theorem sendFrame_lastStatus (ch : TxChannel) (id : Ident) (b : List Byte) (s : State) :
    (sendFrame ch id b s).lastStatus = s.lastStatus := rfl
@[simp] theorem sendFrame_lastSlow (ch : TxChannel) (id : Ident) (b : List Byte) (s : State) :
    (sendFrame ch id b s).lastSlow = s.lastSlow := rfl
@[simp] theorem sendFrame_cfg (ch : TxChannel) (id : Ident) (b : List Byte) (s : State) :
    (sendFrame ch id b s).cfg = s.cfg := rfl
@[simp] theorem sendFrame_lastNow (ch : TxChannel) (id : Ident) (b : List Byte) (s : State) :
    (sendFrame ch id b s).lastNow = s.lastNow := rfl
@[simp] theorem sendFrame_port (ch : TxChannel) (id : Ident) (b : List Byte) (s : State) :
    (sendFrame ch id b s).port = s.port := rfl
@[simp] theorem sendFrame_txCtr (ch : TxChannel) (id : Ident) (b : List Byte) (s : State) :
    (sendFrame ch id b s).txCtr = s.txCtr.bump ch := rfl

/-- R274: the frame a transmission emits. -/
theorem sendFrame_out (ch : TxChannel) (id : Ident) (b : List Byte) (s : State) :
    (sendFrame ch id b s).out = { s.out with
      frames := s.out.frames ++ [⟨id, b ++ [buildVc schemaVersion (s.txCtr.get ch)] ++
        [checksum (b ++ [buildVc schemaVersion (s.txCtr.get ch)])]⟩] } := rfl

end Sys2Proof.Machine
end

