-- ==== Sys2Proof/Laws/Keeps.lean ====
section
/-! SUPPORT. What an operation can do, said once: every completed operation is a sequence of the few updates
named in `Keeps`, so that a property those updates keep is kept by every operation. -/

namespace Sys2Proof.Machine

/-- `P` is kept by each single update the core's operations are made of. The time of an update is the time of
the operation, `s.lastNow`. -/
structure Keeps (P : State → Prop) : Prop where
  returning : ∀ s r, P s → P (s.returning r)
  send : ∀ s (ch : TxChannel) b, b.length + 2 = ch.length → P s → P (sendFrame ch ch.ident b s)
  report : ∀ s c, 1 ≤ c.toNat → c.toNat ≤ 5 → P s → P (reportFault c s.lastNow s)
  result : ∀ s ch res, res ≠ 0 → P s →
    P { s with vr := s.vr.put ch { s.vr.get ch with lastResult := res }, out := { s.out with result := .code res } }
  accept : ∀ s ch ctr, P s →
    ((s.vr.get ch).seeded = true → validateCounter ctr (s.vr.get ch).lastCounter = true) →
    P (accept ch ctr s.lastNow s)
  lock : ∀ s l, P s → P { s with lock := l }
  lighting : ∀ s h m, P s → P (applyLighting h m s)
  recompute : ∀ s, P s → P (recomputeOutput s)
  ambient : ∀ s level, P s → P (setAmbient level s.lastNow s)
  enter : ∀ s m, m ≠ .off → s.turnMode ≠ .hazard → P s → P (enterTurn m s.lastNow s)
  leave : ∀ s, s.turnMode ≠ .hazard → P s → P (enterOff s)
  flip : ∀ s, s.turnMode ≠ .off → P s → P (flipLamp s.lastNow s)
  fast : ∀ s, P s → P { s with lastFast := s.lastNow }
  status : ∀ s, P s → P { s with lastStatus := s.lastNow }
  slow : ∀ s, P s → P { s with lastSlow := s.lastNow }
  clear : ∀ s c, P s → P (clearFault c s)
  clearAll : ∀ s, P s → P (clearAllFaults s)
  doorOpen : ∀ s m, P s → P { s with doorOpen := m }

/-- The instructions that bring a TURN.HAZARD_OFF frame, the only ones that leave `Hazard` (R240). -/
def bringsHazardOff : Instr → Prop
  | .turnHazardOff .. => True
  | .route f _ => ∃ rsv vc ck, f = ⟨0x120, [4, rsv, vc, ck]⟩
  | _ => False

variable {P : State → Prop}

theorem Keeps.reject (K : Keeps P) {s : State} {now : Time} (hn : s.lastNow = now) {ch : Channel} {res : Byte}
    (h0 : res ≠ 0) (h : P s) :
    (∀ c : Byte, 1 ≤ c.toNat → c.toNat ≤ 5 → P (reject ch res (some c) now s)) ∧ P (reject ch res none now s) := by
  subst hn
  refine ⟨fun c h1 h5 => ?_, K.result s ch res h0 h⟩
  rw [reject_some]
  exact K.report _ c h1 h5 (K.result s ch res h0 h)

/-- The steps of a channel keep `P` where they apply, reject with a code of R291 and a result other than OK,
and leave the validation records and the clock alone (R165). -/
def StepsKeep (P : State → Prop) (steps : State → Steps) : Prop :=
  ∀ s, P s → match steps s with
    | .rejected res fc => res ≠ 0 ∧ ∀ c, fc = some c → 1 ≤ c.toNat ∧ c.toNat ≤ 5
    | .applied s' => P s' ∧ s'.vr = s.vr ∧ s'.lastNow = s.lastNow

theorem Keeps.validate (K : Keeps P) {s : State} {now : Time} (hn : s.lastNow = now) (ch : Channel)
    (op arg vc ck : Byte) {steps : State → Steps} (hs : StepsKeep P steps) (h : P s) :
    P (validate ch op arg vc ck now steps s) := by
  have hst := hs s h
  rcases validate_cases ch op arg vc ck now steps s with
    ⟨-, e⟩ | ⟨-, -, -, e⟩ | ⟨-, hc, ⟨res, fc, hs', e⟩ | ⟨s', hs', e⟩⟩ <;> rw [e]
  · exact (K.reject hn (by decide) h).1 _ (by decide) (by decide)
  · exact (K.reject hn (by decide) h).1 _ (by decide) (by decide)
  · rw [hs'] at hst
    cases fc with
    | none => exact (K.reject hn hst.1 h).2
    | some c => exact (K.reject hn hst.1 h).1 c (hst.2 c rfl).1 (hst.2 c rfl).2
  · rw [hs'] at hst
    obtain ⟨hp, hv, hl⟩ := hst
    rw [← hn, ← hl]
    exact K.accept _ ch _ hp (by rw [hv]; exact hc)

theorem Keeps.handle (K : Keeps P) {s : State} {now : Time} (hn : s.lastNow = now) (ch : Channel) (f : Frame)
    {steps : Byte → Byte → State → Steps} (hs : ∀ op arg, StepsKeep P (steps op arg)) (h : P s) :
    P (handle ch f now steps s) := by
  unfold Machine.handle
  split
  · exact K.validate hn ch _ _ _ _ (hs _ _) h
  · exact (K.reject hn (by decide) h).1 _ (by decide) (by decide)

/-! ## The channels' steps -/

theorem Keeps.driveAll (K : Keeps P) (d : LockState → LockState) : StepsKeep P (driveAll d) :=
  fun s h => ⟨K.lock s _ h, rfl, rfl⟩

theorem Keeps.driveSelected (K : Keeps P) (d : LockState → LockState) (b : Byte) :
    StepsKeep P (driveSelected d b) := by
  intro s h
  unfold Machine.driveSelected
  split
  next heq => split at heq <;> cases heq; exact ⟨by decide, fun c hc => nomatch hc⟩
  next heq => split at heq <;> cases heq; exact ⟨K.lock s _ h, rfl, rfl⟩

theorem Keeps.doorSteps (K : Keeps P) (op arg : Byte) : StepsKeep P (doorSteps op arg) := by
  have he : Machine.doorSteps op arg =
      if op = cmdLockAll then Machine.driveAll lockDrive
      else if op = cmdUnlockAll then Machine.driveAll unlockDrive
      else if op = cmdLockSingle then Machine.driveSelected lockDrive arg
      else if op = cmdUnlockSingle then Machine.driveSelected unlockDrive arg
      else fun _ => .rejected resInvalidCommand (some fcInvalidCommand) := by
    funext s
    unfold Machine.doorSteps
    split_ifs <;> rfl
  rw [he]
  split_ifs
  · exact K.driveAll _
  · exact K.driveAll _
  · exact K.driveSelected _ _
  · exact K.driveSelected _ _
  · exact fun s _ => ⟨by decide, by rintro c ⟨⟩; decide⟩

theorem recomputeOutput_frame (s : State) :
    recomputeOutput s = { s with headlightOutput := (recomputeOutput s).headlightOutput } := rfl

theorem applyLighting_vr (h : HeadlightCmd) (m : InteriorCmd) (s : State) :
    (applyLighting h m s).vr = s.vr ∧ (applyLighting h m s).lastNow = s.lastNow := by
  cases h <;> cases m <;> exact ⟨rfl, rfl⟩

theorem Keeps.lightStepsHl (K : Keeps P) (c : HeadlightCmd) (b : Byte) : StepsKeep P (lightStepsHl c b) := by
  intro s h
  unfold Machine.lightStepsHl
  cases interiorCmd b with
  | none => exact ⟨by decide, by rintro c ⟨⟩; decide⟩
  | some m => exact ⟨K.lighting s c m h, applyLighting_vr c m s⟩

theorem Keeps.lightStepsInt (K : Keeps P) (b : Byte) (m : InteriorCmd) : StepsKeep P (lightStepsInt b m) := by
  intro s h
  unfold Machine.lightStepsInt
  cases headlightCmd b with
  | none => exact ⟨by decide, by rintro c ⟨⟩; decide⟩
  | some c => exact ⟨K.lighting s c m h, applyLighting_vr c m s⟩

theorem Keeps.lightSteps (K : Keeps P) (op arg : Byte) : StepsKeep P (lightSteps op arg) := by
  intro s h
  unfold Machine.lightSteps
  cases headlightCmd op with
  | none => exact ⟨by decide, by rintro c ⟨⟩; decide⟩
  | some c =>
    cases interiorCmd arg with
    | none => exact ⟨by decide, by rintro c ⟨⟩; decide⟩
    | some m => exact ⟨K.lighting s c m h, applyLighting_vr c m s⟩

theorem Keeps.applyTurn (K : Keeps P) {s : State} {now : Time} (hn : s.lastNow = now) {c : TurnCmd}
    (hz : s.turnMode ≠ .hazard ∨ c ≠ .hazardOff ∨ P (enterOff s)) (h : P s) :
    P (applyTurn c now s) ∧ (applyTurn c now s).vr = s.vr ∧ (applyTurn c now s).lastNow = s.lastNow := by
  subst hn
  cases c <;> simp only [Machine.applyTurn, applyTurnOff, applyTurnLeft, applyTurnRight, applyHazardOn,
    applyHazardOff] <;> split
  all_goals rename_i hm
  all_goals first
    | exact ⟨h, rfl, rfl⟩
    | exact ⟨K.enter s _ (by decide) (by rw [hm]; decide) h, rfl, rfl⟩
    | exact ⟨K.leave s (by rw [hm]; decide) h, rfl, rfl⟩
    | (rcases hz with hz | hz | hz
       · exact absurd hm hz
       · exact absurd rfl hz
       · exact ⟨hz, rfl, rfl⟩)

/-! ## The periodic operations -/

theorem doorTick_frame (s : State) : doorTick s = { s with lock := s.lock.mapAll advanceLock } := rfl

theorem Keeps.lightTick (K : Keeps P) {s : State} {now : Time} (hn : s.lastNow = now) (h : P s) :
    P (lightTick now s) := by
  subst hn
  unfold Machine.lightTick
  split
  · exact K.recompute _ (K.report s _ (by decide) (by decide) h)
  · exact K.recompute _ h

theorem lightTick_lastNow (now : Time) (s : State) : (lightTick now s).lastNow = s.lastNow := by
  unfold Machine.lightTick
  split
  · exact reportFault_lastNow _ _ _
  · rfl

theorem Keeps.turnTick (K : Keeps P) {s : State} {now : Time} (hn : s.lastNow = now) (h : P s) :
    P (turnTick now s) := by
  subst hn
  unfold Machine.turnTick
  split
  next hc => exact K.flip s hc.1 h
  next => exact h

theorem turnTick_lastNow (now : Time) (s : State) : (turnTick now s).lastNow = s.lastNow := by
  unfold Machine.turnTick
  split <;> rfl

theorem Keeps.checkTimeout (K : Keeps P) {s : State} {now : Time} (hn : s.lastNow = now) (h : P s) :
    P (checkTimeout now s) := by
  subst hn
  unfold Machine.checkTimeout
  split
  next hc =>
    exact K.report _ _ (by decide) (by decide) (K.leave s (by rcases hc.1 with e | e <;> rw [e] <;> decide) h)
  next => exact h

theorem Keeps.fastTrigger (K : Keeps P) {s : State} {now : Time} (hn : s.lastNow = now) (h : P s) :
    P (fastTrigger now s) ∧ (fastTrigger now s).lastNow = now := by
  unfold Machine.fastTrigger
  split
  · subst hn
    refine ⟨K.turnTick (lightTick_lastNow _ _) (K.lightTick rfl (K.lock _ _ (K.fast s h))), ?_⟩
    rw [turnTick_lastNow, lightTick_lastNow]
    rfl
  · exact ⟨h, hn⟩

theorem Keeps.statusTrigger (K : Keeps P) {s : State} {now : Time} (hn : s.lastNow = now) (h : P s) :
    P (statusTrigger now s) ∧ (statusTrigger now s).lastNow = now := by
  unfold Machine.statusTrigger
  split
  · subst hn
    exact ⟨K.send _ .turnStatus _ rfl (K.send _ .lightingStatus _ rfl (K.send _ .doorStatus _ rfl (K.status s h))),
      rfl⟩
  · exact ⟨h, hn⟩

theorem Keeps.slowTrigger (K : Keeps P) {s : State} {now : Time} (hn : s.lastNow = now) (h : P s) :
    P (slowTrigger now s) := by
  unfold Machine.slowTrigger
  split
  · subst hn
    exact K.checkTimeout rfl (K.send _ .faultStatus _ rfl (K.send _ .heartbeat _ rfl (K.slow s h)))
  · exact h

/-- R262 to R264: one SCHED is a sequence of the updates of `Keeps`. -/
theorem Keeps.sched (K : Keeps P) {s : State} {now : Time} (hn : s.lastNow = now) (h : P s) :
    P (sched now s) :=
  K.slowTrigger (K.statusTrigger (K.fastTrigger hn h).2 (K.fastTrigger hn h).1).2
    (K.statusTrigger (K.fastTrigger hn h).2 (K.fastTrigger hn h).1).1

/-! ## Every operation -/

theorem turnCmd_eq_hazardOff {op : Byte} (h : turnCmd op = some .hazardOff) : op = 4 := by
  revert op; decide

theorem Keeps.turnSteps (K : Keeps P) {now : Time} {op : Byte} (arg : Byte)
    (hz : op = 4 → ∀ u, P u → P (enterOff u)) :
    StepsKeep (fun s => P s ∧ s.lastNow = now) (turnSteps now op arg) := by
  intro s h
  unfold Machine.turnSteps
  cases hc : turnCmd op with
  | none => exact ⟨by decide, by rintro c ⟨⟩; decide⟩
  | some c =>
    have hz' : c ≠ .hazardOff ∨ P (enterOff s) := by
      by_cases hh : c = .hazardOff
      · subst hh; exact .inr (hz (turnCmd_eq_hazardOff hc) s h.1)
      · exact .inl hh
    have := K.applyTurn h.2 (c := c) (.inr hz') h.1
    exact ⟨⟨this.1, this.2.2.trans h.2⟩, this.2⟩

/-- The clock stands still within an operation, so `P` may be strengthened by its reading. -/
theorem Keeps.atClock (K : Keeps P) (now : Time) : Keeps (fun s => P s ∧ s.lastNow = now) where
  returning := fun s r h => ⟨K.returning s r h.1, h.2⟩
  send := fun s ch b hb h => ⟨K.send s ch b hb h.1, h.2⟩
  report := fun s c h1 h5 h => ⟨K.report s c h1 h5 h.1, (reportFault_lastNow _ _ _).trans h.2⟩
  result := fun s ch res h0 h => ⟨K.result s ch res h0 h.1, h.2⟩
  accept := fun s ch ctr h hc => ⟨K.accept s ch ctr h.1 hc, h.2⟩
  lock := fun s l h => ⟨K.lock s l h.1, h.2⟩
  lighting := fun s c m h => ⟨K.lighting s c m h.1, (applyLighting_vr c m s).2.trans h.2⟩
  recompute := fun s h => ⟨K.recompute s h.1, h.2⟩
  ambient := fun s l h => ⟨K.ambient s l h.1, h.2⟩
  enter := fun s m h0 hz h => ⟨K.enter s m h0 hz h.1, h.2⟩
  leave := fun s hz h => ⟨K.leave s hz h.1, h.2⟩
  flip := fun s h0 h => ⟨K.flip s h0 h.1, h.2⟩
  fast := fun s h => ⟨K.fast s h.1, h.2⟩
  status := fun s h => ⟨K.status s h.1, h.2⟩
  slow := fun s h => ⟨K.slow s h.1, h.2⟩
  clear := fun s c h => ⟨K.clear s c h.1, (clearFault_lastNow _ _).trans h.2⟩
  clearAll := fun s h => ⟨K.clearAll s h.1, h.2⟩
  doorOpen := fun s m h => ⟨K.doorOpen s m h.1, h.2⟩

theorem Keeps.routeFrame (K : Keeps P) {s : State} {now : Time} (hn : s.lastNow = now) (f : Frame)
    (hz : (∃ rsv vc ck, f = ⟨0x120, [4, rsv, vc, ck]⟩) → ∀ u, P u → P (enterOff u)) (h : P s) :
    P (routeFrame f now s) := by
  have K' := K.atClock now
  unfold Machine.routeFrame handleDoor handleLight handleTurn
  split
  · exact K.handle hn _ _ K.doorSteps h
  split
  · exact K.handle hn _ _ K.lightSteps h
  split
  next hid =>
    unfold Machine.handle
    split
    next op arg vc ck hd =>
      refine (K'.validate hn _ _ _ _ _ (K.turnSteps arg fun ho => hz ?_) ⟨h, hn⟩).1
      obtain ⟨id, data⟩ := f
      exact ⟨arg, vc, ck, by subst ho; cases hid; cases hd; rfl⟩
    · exact (K.reject hn (by decide) h).1 _ (by decide) (by decide)
  · exact h

/-- A TURN row's step keeps `P`. -/
theorem Keeps.turnRow (K : Keeps P) {now : Time} (c : TurnCmd)
    (hz : c ≠ .hazardOff ∨ ∀ u, P u → P (enterOff u)) :
    StepsKeep (fun s => P s ∧ s.lastNow = now) (fun s => .applied (Machine.applyTurn c now s)) := by
  intro s h
  have := K.applyTurn h.2 (c := c) (.inr (hz.imp id fun hz => hz s h.1)) h.1
  exact ⟨⟨this.1, this.2.2.trans h.2⟩, this.2⟩

/-- Every operation that completes starts from the state with the clock set and nothing emitted, and applies
updates of `Keeps` only (R62, R66), but for FAULT_REPORT of any code (`hr`) and TURN.HAZARD_OFF (`hz`). -/
theorem Keeps.exec (K : Keeps P) {i : Instr} {s t : State}
    (hr : ∀ code now, i = .faultReport code now → code ≠ 0 → ∀ u, P u → P (reportFault code u.lastNow u))
    (hz : bringsHazardOff i → ∀ u, P u → P (enterOff u))
    (h0 : ∀ now, s.lastNow ≤ now → P { s.begun with lastNow := now }) (h : exec i s = .next t) : P t := by
  have hb : P s.begun := h0 s.lastNow (BitVec.le_refl _)
  have row : ∀ {now : Time} {ch op arg ver ctr ck st},
      StepsKeep (fun s => P s ∧ s.lastNow = now) st → command ch op arg ver ctr ck now st s = .next t → P t := by
    intro now ch op arg ver ctr ck st hst h
    obtain ⟨hl, rfl⟩ := (performAt_eq_next _ _ _ _).1 h
    exact ((K.atClock now).validate rfl ch op arg _ ck hst ⟨h0 now hl, rfl⟩).1
  have ign : ∀ {now : Time}, ignoreFrame now s = .next t → P t := by
    intro now h
    obtain ⟨hl, rfl⟩ := (performAt_eq_next _ _ _ _).1 h
    exact h0 now hl
  have at_ : ∀ {now : Time} {f : State → State}, (∀ u, P u → u.lastNow = now → P (f u)) →
      performAt now f s = .next t → P t := by
    intro now f hf h
    obtain ⟨hl, rfl⟩ := (performAt_eq_next _ _ _ _).1 h
    exact hf _ (h0 now hl) rfl
  have now_ : ∀ {f : State → State}, (∀ u, P u → P (f u)) → perform f s = .next t → P t := by
    intro f hf h
    obtain rfl := (perform_eq_next _ _ _).1 h
    exact hf _ hb
  have Kt := fun now => K.atClock now
  cases i
  case doorLockAll => exact row ((Kt _).driveAll _) h
  case doorUnlockAll => exact row ((Kt _).driveAll _) h
  case doorLockSingle => exact row ((Kt _).driveSelected _ _) h
  case doorUnlockSingle => exact row ((Kt _).driveSelected _ _) h
  case lightHlOff => exact row ((Kt _).lightStepsHl _ _) h
  case lightHlOn => exact row ((Kt _).lightStepsHl _ _) h
  case lightHlAuto => exact row ((Kt _).lightStepsHl _ _) h
  case lightHlHighOn => exact row ((Kt _).lightStepsHl _ _) h
  case lightHlHighOff => exact row ((Kt _).lightStepsHl _ _) h
  case lightIntOff => exact row ((Kt _).lightStepsInt _ _) h
  case lightIntOn => exact row ((Kt _).lightStepsInt _ _) h
  case lightIntAuto => exact row ((Kt _).lightStepsInt _ _) h
  case turnOff => exact row (K.turnRow .off (.inl (by decide))) h
  case turnLeft => exact row (K.turnRow .left (.inl (by decide))) h
  case turnRight => exact row (K.turnRow .right (.inl (by decide))) h
  case turnHazardOn => exact row (K.turnRow .hazardOn (.inl (by decide))) h
  case turnHazardOff => exact row (K.turnRow .hazardOff (.inr (hz trivial))) h
  case doorStatus => exact ign h
  case lightingStatus => exact ign h
  case turnStatus => exact ign h
  case faultStatus => exact ign h
  case heartbeat => exact ign h
  case route f now =>
    unfold Machine.exec execRoute at h
    dsimp only at h
    split at h
    · exact at_ (fun u hu hn => K.routeFrame hn f hz hu) h
    · cases h
  case sched => exact at_ (fun u hu hn => K.sched hn hu) h
  case doorTick => exact now_ (fun u hu => K.lock u _ hu) h
  case lightTick => exact at_ (fun u hu hn => K.lightTick hn hu) h
  case turnTick => exact at_ (fun u hu hn => K.turnTick hn hu) h
  case checkTimeout => exact at_ (fun u hu hn => K.checkTimeout hn hu) h
  case setAmbient => exact at_ (fun u hu hn => hn ▸ K.ambient u _ hu) h
  case setDoorOpen => exact now_ (fun u hu => K.doorOpen u _ hu) h
  case renderDoorStatus => exact now_ (fun u hu => K.send u .doorStatus _ rfl hu) h
  case renderLightStatus => exact now_ (fun u hu => K.send u .lightingStatus _ rfl hu) h
  case renderTurnStatus => exact now_ (fun u hu => K.send u .turnStatus _ rfl hu) h
  case renderFaultStatus => exact now_ (fun u hu => K.send u .faultStatus _ rfl hu) h
  case renderHeartbeat => exact at_ (fun u hu _ => K.send u .heartbeat _ rfl hu) h
  case faultReport code now =>
    unfold Machine.exec execFaultReport at h
    dsimp only at h
    split at h
    · cases h
    next hc => exact at_ (fun u hu hn => hn ▸ hr code now rfl hc u hu) h
  case faultClear => exact now_ (fun u hu => K.clear u _ hu) h
  case faultClearAll => exact now_ (fun u hu => K.clearAll u hu) h
  case faultIsActive => exact now_ (fun u hu => K.returning u _ hu) h
  case faultCount => exact now_ (fun u hu => K.returning u _ hu) h
  case faultFlags => exact now_ (fun u hu => K.returning u _ hu) h
  case faultMostRecent => exact now_ (fun u hu => K.returning u _ hu) h
  case checksum bytes =>
    cases bytes with
    | nil => cases h
    | cons => exact now_ (fun u hu => K.returning u _ hu) h
  case validateChecksum claimed bytes =>
    cases bytes with
    | nil => cases h
    | cons => exact now_ (fun u hu => K.returning u _ hu) h
  case buildVc => exact now_ (fun u hu => K.returning u _ hu) h
  case extractVersion => exact now_ (fun u hu => K.returning u _ hu) h
  case extractCounter => exact now_ (fun u hu => K.returning u _ hu) h
  case validateCounter => exact now_ (fun u hu => K.returning u _ hu) h

/-- R67: a step that answers performs one presented operation, or none. -/
theorem Keeps.step (K : Keeps P) {s t : State}
    (hr : ∀ u c, c ≠ 0 → P u → P (reportFault c u.lastNow u)) (hz : ∀ u, P u → P (enterOff u))
    (hp : ∀ u q, P u → P { u with port := q })
    (hb : ∀ u now, P u → u.lastNow ≤ now → P { u.begun with lastNow := now })
    (h : P s) (hs : step s = .next t) : P t := by
  unfold Machine.step at hs
  split at hs
  · unfold takePresented at hs
    split at hs
    next => cases hs; exact h
    next p s' heq =>
      split at heq
      · cases heq
      · cases heq
        split at hs
        · exact K.exec (fun c _ _ h0 u hu => hr u c h0 hu) (fun _ => hz) (fun now hl => hb _ now (hp s _ h) hl) hs
        · cases hs
  · cases hs

end Sys2Proof.Machine
end

