-- ==== Sys2Proof/Laws/PerInstr.lean ====
section
/-! SUPPORT. The per-instruction family RoundTrip: a well-formed instruction that its own row spells is read
back from its encoding, one lemma for each constructor of Instr. -/

namespace Sys2Proof.Laws.RoundTrip

open Sys2Proof.Machine

/-- Decoding the encoding of `i` gives `i` back (R85, R95, R105). -/
def Statement (i : Instr) : Prop :=
  i.wellFormed = true → i.spelledByOwnRow → decode (encode i) = .ok i

theorem doorLockAll (doorId : Byte) (ver ctr : Nib) (ck : Byte) (now : Time) : Statement (.doorLockAll doorId ver ctr ck now) := by
  intro _ _
  rw [decode_encode_frame rfl (by simp [commandFrame])]
  simp only [commandFrame, spell, spell4, extractVersion_buildVc, extractCounter_buildVc]
  rfl

theorem doorUnlockAll (doorId : Byte) (ver ctr : Nib) (ck : Byte) (now : Time) : Statement (.doorUnlockAll doorId ver ctr ck now) := by
  intro _ _
  rw [decode_encode_frame rfl (by simp [commandFrame])]
  simp only [commandFrame, spell, spell4, extractVersion_buildVc, extractCounter_buildVc]
  rfl

theorem doorLockSingle (doorId : Byte) (ver ctr : Nib) (ck : Byte) (now : Time) : Statement (.doorLockSingle doorId ver ctr ck now) := by
  intro _ _
  rw [decode_encode_frame rfl (by simp [commandFrame])]
  simp only [commandFrame, spell, spell4, extractVersion_buildVc, extractCounter_buildVc]
  rfl

theorem doorUnlockSingle (doorId : Byte) (ver ctr : Nib) (ck : Byte) (now : Time) : Statement (.doorUnlockSingle doorId ver ctr ck now) := by
  intro _ _
  rw [decode_encode_frame rfl (by simp [commandFrame])]
  simp only [commandFrame, spell, spell4, extractVersion_buildVc, extractCounter_buildVc]
  rfl

theorem lightHlOff (interior : Byte) (ver ctr : Nib) (ck : Byte) (now : Time) : Statement (.lightHlOff interior ver ctr ck now) := by
  intro _ h
  rw [decode_encode_frame rfl (by simp [commandFrame])]
  simp only [commandFrame, spell, spell4, extractVersion_buildVc, extractCounter_buildVc]
  rcases h with rfl | h
  · rfl
  · rw [h]; rfl

theorem lightHlOn (interior : Byte) (ver ctr : Nib) (ck : Byte) (now : Time) : Statement (.lightHlOn interior ver ctr ck now) := by
  intro _ _
  rw [decode_encode_frame rfl (by simp [commandFrame])]
  simp only [commandFrame, spell, spell4, extractVersion_buildVc, extractCounter_buildVc]
  cases interiorCmd interior <;> rfl

theorem lightHlAuto (interior : Byte) (ver ctr : Nib) (ck : Byte) (now : Time) : Statement (.lightHlAuto interior ver ctr ck now) := by
  intro _ _
  rw [decode_encode_frame rfl (by simp [commandFrame])]
  simp only [commandFrame, spell, spell4, extractVersion_buildVc, extractCounter_buildVc]
  cases interiorCmd interior <;> rfl

theorem lightHlHighOn (interior : Byte) (ver ctr : Nib) (ck : Byte) (now : Time) : Statement (.lightHlHighOn interior ver ctr ck now) := by
  intro _ _
  rw [decode_encode_frame rfl (by simp [commandFrame])]
  simp only [commandFrame, spell, spell4, extractVersion_buildVc, extractCounter_buildVc]
  cases interiorCmd interior <;> rfl

theorem lightHlHighOff (interior : Byte) (ver ctr : Nib) (ck : Byte) (now : Time) : Statement (.lightHlHighOff interior ver ctr ck now) := by
  intro _ _
  rw [decode_encode_frame rfl (by simp [commandFrame])]
  simp only [commandFrame, spell, spell4, extractVersion_buildVc, extractCounter_buildVc]
  cases interiorCmd interior <;> rfl

theorem lightIntOff (headlight : Byte) (bri : Nib) (ign : BitVec 2) (ver ctr : Nib) (ck : Byte) (now : Time) : Statement (.lightIntOff headlight bri ign ver ctr ck now) := by
  intro _ h
  rw [decode_encode_frame rfl (by simp [commandFrame])]
  simp only [commandFrame, spell, spell4, extractVersion_buildVc, extractCounter_buildVc, interiorCmd_off,
    spell4.spellInterior, interiorBrightnessBits_byte, interiorIgnoredBits_byte]
  rcases h with h | ⟨rfl, hz⟩
  · rw [h]; rfl
  · simp only [show headlightCmd cmdHlOff = some .off from rfl, if_neg (hz)]
    rfl

theorem lightIntOn (headlight : Byte) (bri : Nib) (ign : BitVec 2) (ver ctr : Nib) (ck : Byte) (now : Time) : Statement (.lightIntOn headlight bri ign ver ctr ck now) := by
  intro _ h
  rw [decode_encode_frame rfl (by simp [commandFrame])]
  simp only [commandFrame, spell, spell4, extractVersion_buildVc, extractCounter_buildVc, interiorCmd_on,
    spell4.spellInterior, interiorBrightnessBits_byte, interiorIgnoredBits_byte]
  rcases h with h | rfl
  · rw [h]; rfl
  · simp only [show headlightCmd cmdHlOff = some .off from rfl, if_neg (interiorByte_on_ne_zero _ _)]
    rfl

theorem lightIntAuto (headlight : Byte) (bri : Nib) (ign : BitVec 2) (ver ctr : Nib) (ck : Byte) (now : Time) : Statement (.lightIntAuto headlight bri ign ver ctr ck now) := by
  intro _ h
  rw [decode_encode_frame rfl (by simp [commandFrame])]
  simp only [commandFrame, spell, spell4, extractVersion_buildVc, extractCounter_buildVc, interiorCmd_auto,
    spell4.spellInterior, interiorBrightnessBits_byte, interiorIgnoredBits_byte]
  rcases h with h | rfl
  · rw [h]; rfl
  · simp only [show headlightCmd cmdHlOff = some .off from rfl, if_neg (interiorByte_auto_ne_zero _ _)]
    rfl

theorem turnOff (rsv : Byte) (ver ctr : Nib) (ck : Byte) (now : Time) : Statement (.turnOff rsv ver ctr ck now) := by
  intro _ _
  rw [decode_encode_frame rfl (by simp [commandFrame])]
  simp only [commandFrame, spell, spell4, extractVersion_buildVc, extractCounter_buildVc]
  rfl

theorem turnLeft (rsv : Byte) (ver ctr : Nib) (ck : Byte) (now : Time) : Statement (.turnLeft rsv ver ctr ck now) := by
  intro _ _
  rw [decode_encode_frame rfl (by simp [commandFrame])]
  simp only [commandFrame, spell, spell4, extractVersion_buildVc, extractCounter_buildVc]
  rfl

theorem turnRight (rsv : Byte) (ver ctr : Nib) (ck : Byte) (now : Time) : Statement (.turnRight rsv ver ctr ck now) := by
  intro _ _
  rw [decode_encode_frame rfl (by simp [commandFrame])]
  simp only [commandFrame, spell, spell4, extractVersion_buildVc, extractCounter_buildVc]
  rfl

theorem turnHazardOn (rsv : Byte) (ver ctr : Nib) (ck : Byte) (now : Time) : Statement (.turnHazardOn rsv ver ctr ck now) := by
  intro _ _
  rw [decode_encode_frame rfl (by simp [commandFrame])]
  simp only [commandFrame, spell, spell4, extractVersion_buildVc, extractCounter_buildVc]
  rfl

theorem turnHazardOff (rsv : Byte) (ver ctr : Nib) (ck : Byte) (now : Time) : Statement (.turnHazardOff rsv ver ctr ck now) := by
  intro _ _
  rw [decode_encode_frame rfl (by simp [commandFrame])]
  simp only [commandFrame, spell, spell4, extractVersion_buildVc, extractCounter_buildVc]
  rfl

theorem doorStatus (locks opens result faultCount vc ck : Byte) (now : Time) : Statement (.doorStatus locks opens result faultCount vc ck now) := by
  intro _ _
  rw [decode_encode_frame rfl (by simp)]
  rfl

theorem lightingStatus (headlightOut interior ambient result vc ck : Byte) (now : Time) : Statement (.lightingStatus headlightOut interior ambient result vc ck now) := by
  intro _ _
  rw [decode_encode_frame rfl (by simp)]
  rfl

theorem turnStatus (mode lamps flashCount result vc ck : Byte) (now : Time) : Statement (.turnStatus mode lamps flashCount result vc ck now) := by
  intro _ _
  rw [decode_encode_frame rfl (by simp)]
  rfl

theorem faultStatus (flags1 flags2 totalCount recentCode tsHi tsLo vc ck : Byte) (now : Time) : Statement (.faultStatus flags1 flags2 totalCount recentCode tsHi tsLo vc ck now) := by
  intro _ _
  rw [decode_encode_frame rfl (by simp)]
  rfl

theorem heartbeat (state uptimeMin vc ck : Byte) (now : Time) : Statement (.heartbeat state uptimeMin vc ck now) := by
  intro _ _
  rw [decode_encode_frame rfl (by simp)]
  simp only [spell, spell4]
  rfl

theorem route (f : Frame) (now : Time) : Statement (.route f now) := by
  intro h _
  rw [decode_encode_operation rfl rfl]
  exact opFrame_routeBytes f now (by simpa [Instr.wellFormed, Frame.wellFormed] using h)

theorem sched (now : Time) : Statement (.sched now) := by
  intro _ _
  rw [decode_encode_operation rfl rfl]
  simp [decodeOperation, timeBytes, opTime]

theorem doorTick : Statement (.doorTick) := by
  intro _ _
  rw [decode_encode_operation rfl rfl]
  rfl

theorem lightTick (now : Time) : Statement (.lightTick now) := by
  intro _ _
  rw [decode_encode_operation rfl rfl]
  simp [decodeOperation, timeBytes, opTime]

theorem turnTick (now : Time) : Statement (.turnTick now) := by
  intro _ _
  rw [decode_encode_operation rfl rfl]
  simp [decodeOperation, timeBytes, opTime]

theorem checkTimeout (now : Time) : Statement (.checkTimeout now) := by
  intro _ _
  rw [decode_encode_operation rfl rfl]
  simp [decodeOperation, timeBytes, opTime]

theorem setAmbient (level : Byte) (now : Time) : Statement (.setAmbient level now) := by
  intro _ _
  rw [decode_encode_operation rfl rfl]
  simp [decodeOperation, timeBytes, opTimeByte]

theorem setDoorOpen (mask : Nib) : Statement (.setDoorOpen mask) := by
  intro _ _
  rw [decode_encode_operation rfl rfl]
  simp [decodeOperation, opNib]

theorem renderDoorStatus : Statement (.renderDoorStatus) := by
  intro _ _
  rw [decode_encode_operation rfl rfl]
  rfl

theorem renderLightStatus : Statement (.renderLightStatus) := by
  intro _ _
  rw [decode_encode_operation rfl rfl]
  rfl

theorem renderTurnStatus : Statement (.renderTurnStatus) := by
  intro _ _
  rw [decode_encode_operation rfl rfl]
  rfl

theorem renderFaultStatus : Statement (.renderFaultStatus) := by
  intro _ _
  rw [decode_encode_operation rfl rfl]
  rfl

theorem renderHeartbeat (now : Time) : Statement (.renderHeartbeat now) := by
  intro _ _
  rw [decode_encode_operation rfl rfl]
  simp [decodeOperation, timeBytes, opTime]

theorem faultReport (code : Byte) (now : Time) : Statement (.faultReport code now) := by
  intro _ _
  rw [decode_encode_operation rfl rfl]
  simp [decodeOperation, timeBytes, opTimeByte]

theorem faultClear (code : Byte) : Statement (.faultClear code) := by
  intro _ _
  rw [decode_encode_operation rfl rfl]
  rfl

theorem faultClearAll : Statement (.faultClearAll) := by
  intro _ _
  rw [decode_encode_operation rfl rfl]
  rfl

theorem faultIsActive (code : Byte) : Statement (.faultIsActive code) := by
  intro _ _
  rw [decode_encode_operation rfl rfl]
  rfl

theorem faultCount : Statement (.faultCount) := by
  intro _ _
  rw [decode_encode_operation rfl rfl]
  rfl

theorem faultFlags : Statement (.faultFlags) := by
  intro _ _
  rw [decode_encode_operation rfl rfl]
  rfl

theorem faultMostRecent : Statement (.faultMostRecent) := by
  intro _ _
  rw [decode_encode_operation rfl rfl]
  rfl

theorem checksum (bytes : List Byte) : Statement (.checksum bytes) := by
  intro _ _
  rw [decode_encode_operation rfl rfl]
  rfl

theorem validateChecksum (claimed : Byte) (bytes : List Byte) : Statement (.validateChecksum claimed bytes) := by
  intro _ _
  rw [decode_encode_operation rfl rfl]
  rfl

theorem buildVc (version counter : Nib) : Statement (.buildVc version counter) := by
  intro _ _
  rw [decode_encode_operation rfl rfl]
  simp [decodeOperation, opNibNib]

theorem extractVersion (byte : Byte) : Statement (.extractVersion byte) := by
  intro _ _
  rw [decode_encode_operation rfl rfl]
  rfl

theorem extractCounter (byte : Byte) : Statement (.extractCounter byte) := by
  intro _ _
  rw [decode_encode_operation rfl rfl]
  rfl

theorem validateCounter (received last : Nib) : Statement (.validateCounter received last) := by
  intro _ _
  rw [decode_encode_operation rfl rfl]
  simp [decodeOperation, opNibNib]

end Sys2Proof.Laws.RoundTrip
end

