-- ==== Sys2Proof/Tests/Slice0.lean ====
section
/-! SUPPORT. The model's own tests. Expected values come from spec/: the encodings of 30_encoding.md and the
vectors of 95_test_vectors.md (named in each docstring); then one witness for the hypotheses of each
obligation. -/

namespace Sys2Proof.Tests

open Sys2Proof Sys2Proof.Machine

/-- The state an outcome gives, if it gives one. -/
def after (o : Host.Outcome State Fault Refusal) : Option State :=
  match o with
  | .next t => some t
  | .fault _ => none
  | .refused _ => none

/-- The refusal an outcome is, if it is one. -/
def refusal (o : Host.Outcome State Fault Refusal) : Option Refusal :=
  match o with
  | .refused r => some r
  | .fault _ => none
  | .next _ => none

/-- A field of the state an operation gives from `s`. -/
def see {α : Type} (i : Instr) (s : State) (f : State → α) : Option α := (after (exec i s)).map f

/-- The frames an operation emits from `s`. -/
def sent (i : Instr) (s : State) : Option (List Frame) := see i s (fun t => t.out.frames)

/-! ## Well-formedness -/

theorem test_wf_frame_of_nine_bytes : (Instr.route ⟨0x100, [0, 1, 2, 3, 4, 5, 6, 7, 8]⟩ 0).wellFormed = false := by
  decide
theorem test_wf_frame_of_eight_bytes : (Instr.route ⟨0x100, [0, 1, 2, 3, 4, 5, 6, 7]⟩ 0).wellFormed = true := by
  decide
theorem test_wf_fault_code_zero : (Instr.faultReport 0 7).wellFormed = false := by decide
theorem test_wf_checksum_of_nothing : (Instr.checksum []).wellFormed = false := by decide
theorem test_wf_validate_checksum_of_nothing : (Instr.validateChecksum 0xAA []).wellFormed = false := by decide
/-- The refusals of those four (U1, U2, U5). -/
theorem test_wf_refused_by_exec :
    refusal (exec (.route ⟨0x100, [0, 1, 2, 3, 4, 5, 6, 7, 8]⟩ 0) State.reset) = some .notAFrame ∧
    refusal (exec (.faultReport 0 7) State.reset) = some .zeroFaultCode ∧
    refusal (exec (.checksum []) State.reset) = some .emptyBytes ∧
    refusal (exec (.validateChecksum 0xAA []) State.reset) = some .emptyBytes := by decide
/-- U3: the clock never goes backwards (R326). -/
theorem test_refuses_backward_clock :
    refusal (exec (.sched 4) { State.reset with lastNow := 5 }) = some .clockBackwards := by decide
/-- U7: an illegal configuration. -/
theorem test_refuses_illegal_config :
    refusal (step (State.resetWith { cfgRef with faultCapacity := 0 })) = some .illegalConfig := by decide

/-! ## Decoding: one word of every row of the opcode table, written from R81 to R99 and R105 -/

theorem test_decode_doorLockAll : decodeTableWord 48 0x100401FF1044 = some (.doorLockAll 0xFF 1 0 0x44 0) := by decide
theorem test_decode_doorUnlockAll : decodeTableWord 48 0x1004020019B1 = some (.doorUnlockAll 0 1 9 0xB1 0) := by decide
theorem test_decode_doorLockSingle : decodeTableWord 48 0x1004030215BE = some (.doorLockSingle 2 1 5 0xBE 0) := by decide
theorem test_decode_doorUnlockSingle : decodeTableWord 48 0x100404011FB0 = some (.doorUnlockSingle 1 1 15 0xB0 0) := by decide
theorem test_decode_lightHlOff : decodeTableWord 48 0x1104000012B8 = some (.lightHlOff 0 1 2 0xB8 0) := by decide
theorem test_decode_lightHlOn : decodeTableWord 48 0x11040191102A = some (.lightHlOn 0x91 1 0 0x2A 0) := by decide
theorem test_decode_lightHlAuto : decodeTableWord 48 0x1104025113EA = some (.lightHlAuto 0x51 1 3 0xEA 0) := by decide
theorem test_decode_lightHlHighOn : decodeTableWord 48 0x1104030214BF = some (.lightHlHighOn 2 1 4 0xBF 0) := by decide
theorem test_decode_lightHlHighOff : decodeTableWord 48 0x1104040014BA = some (.lightHlHighOff 0 1 4 0xBA 0) := by decide
theorem test_decode_lightIntOff : decodeTableWord 48 0x110400F01248 = some (.lightIntOff 0 15 0 1 2 0x48 0) := by decide
theorem test_decode_lightIntOn : decodeTableWord 48 0x11040091102B = some (.lightIntOn 0 9 0 1 0 0x2B 0) := by decide
theorem test_decode_lightIntAuto : decodeTableWord 48 0x1104000211B9 = some (.lightIntAuto 0 0 0 1 1 0xB9 0) := by decide
theorem test_decode_turnOff : decodeTableWord 48 0x1204000010BA = some (.turnOff 0 1 0 0xBA 0) := by decide
theorem test_decode_turnLeft : decodeTableWord 48 0x120401FF1044 = some (.turnLeft 0xFF 1 0 0x44 0) := by decide
theorem test_decode_turnRight : decodeTableWord 48 0x1204020015BD = some (.turnRight 0 1 5 0xBD 0) := by decide
theorem test_decode_turnHazardOn : decodeTableWord 48 0x1204030011B8 = some (.turnHazardOn 0 1 1 0xB8 0) := by decide
theorem test_decode_turnHazardOff : decodeTableWord 48 0x1204040014BA = some (.turnHazardOff 0 1 4 0xBA 0) := by decide
theorem test_decode_doorStatus : decodeTableWord 64 0x20060605000010B9 = some (.doorStatus 6 5 0 0 0x10 0xB9 0) := by decide
theorem test_decode_lightingStatus : decodeTableWord 64 0x21060125400010DE = some (.lightingStatus 1 0x25 0x40 0 0x10 0xDE 0) := by decide
theorem test_decode_turnStatus : decodeTableWord 64 0x22060303010013B8 = some (.turnStatus 3 3 1 0 0x13 0xB8 0) := by decide
theorem test_decode_faultStatus : decodeTableWord 80 0x23088800020700141122 = some (.faultStatus 0x88 0 2 7 0 0x14 0x11 0x22 0) := by decide
theorem test_decode_heartbeat : decodeTableWord 48 0x2404010212BB = some (.heartbeat 1 2 0x12 0xBB 0) := by decide
theorem test_decode_route : decodeTableWord 8 0b00000 = some (.route ⟨0, []⟩ 0) := by decide
theorem test_decode_sched : decodeTableWord 8 0b00001 = some (.sched 0) := by decide
theorem test_decode_doorTick : decodeTableWord 8 0b00010 = some (.doorTick) := by decide
theorem test_decode_lightTick : decodeTableWord 8 0b00011 = some (.lightTick 0) := by decide
theorem test_decode_turnTick : decodeTableWord 8 0b00100 = some (.turnTick 0) := by decide
theorem test_decode_checkTimeout : decodeTableWord 8 0b00101 = some (.checkTimeout 0) := by decide
theorem test_decode_setAmbient : decodeTableWord 8 0b00110 = some (.setAmbient 0 0) := by decide
theorem test_decode_setDoorOpen : decodeTableWord 8 0b00111 = some (.setDoorOpen 0) := by decide
theorem test_decode_renderDoorStatus : decodeTableWord 8 0b01000 = some (.renderDoorStatus) := by decide
theorem test_decode_renderLightStatus : decodeTableWord 8 0b01001 = some (.renderLightStatus) := by decide
theorem test_decode_renderTurnStatus : decodeTableWord 8 0b01010 = some (.renderTurnStatus) := by decide
theorem test_decode_renderFaultStatus : decodeTableWord 8 0b01011 = some (.renderFaultStatus) := by decide
theorem test_decode_renderHeartbeat : decodeTableWord 8 0b01100 = some (.renderHeartbeat 0) := by decide
theorem test_decode_faultReport : decodeTableWord 8 0b01101 = some (.faultReport 0 0) := by decide
theorem test_decode_faultClear : decodeTableWord 8 0b01110 = some (.faultClear 0) := by decide
theorem test_decode_faultClearAll : decodeTableWord 8 0b01111 = some (.faultClearAll) := by decide
theorem test_decode_faultIsActive : decodeTableWord 8 0b10000 = some (.faultIsActive 0) := by decide
theorem test_decode_faultCount : decodeTableWord 8 0b10001 = some (.faultCount) := by decide
theorem test_decode_faultFlags : decodeTableWord 8 0b10010 = some (.faultFlags) := by decide
theorem test_decode_faultMostRecent : decodeTableWord 8 0b10011 = some (.faultMostRecent) := by decide
theorem test_decode_checksum : decodeTableWord 8 0b10100 = some (.checksum [0]) := by decide
theorem test_decode_validateChecksum : decodeTableWord 8 0b10101 = some (.validateChecksum 0 [0]) := by decide
theorem test_decode_buildVc : decodeTableWord 8 0b10110 = some (.buildVc 0 0) := by decide
theorem test_decode_extractVersion : decodeTableWord 8 0b10111 = some (.extractVersion 0) := by decide
theorem test_decode_extractCounter : decodeTableWord 8 0b11000 = some (.extractCounter 0) := by decide
theorem test_decode_validateCounter : decodeTableWord 8 0b11001 = some (.validateCounter 0 0) := by decide

/-- An interior row under another headlight byte than 0 to 4, and its ignored bits (R98, R100). -/
theorem test_decode_lightIntOn_illegal_headlight :
    decodeTableWord 48 0x1104079D1020 = some (.lightIntOn 7 9 3 1 0 0x20 0) := by decide
/-- A lighting word that no row matches, and a length that is none of a row's (R95). -/
theorem test_decode_unmatched_words :
    decodeTableWord 48 0x1104050310BF = some (.route ⟨0x110, [5, 3, 0x10, 0xBF]⟩ 0) ∧
    decodeTableWord 40 0x100301FF10 = some (.route ⟨0x100, [1, 0xFF, 0x10]⟩ 0) := by decide
/-- U5 and R105: a length that is not the number of bytes, an identifier of 12 bits, OPSEL 26. -/
theorem test_decode_refuses :
    decodeTableWord 48 0x100301FF1044 = none ∧ decodeTableWord 48 0x900401FF1044 = none ∧
    decodeTableWord 8 0b11010 = none := by decide
/-- The operands of a port operation as the model lays them out (log entry 2). -/
theorem test_decode_operands :
    decode ⟨.operation, [6, 0x78, 0x56, 0x34, 0x12, 0x9A]⟩ = .ok (.setAmbient 0x9A 0x12345678) ∧
    decode ⟨.operation, [21, 0x44, 1, 0xFF, 0x10]⟩ = .ok (.validateChecksum 0x44 [1, 0xFF, 0x10]) ∧
    decode ⟨.operation, [7, 0x10]⟩ = .error .malformedOperands := by decide

/-! ## A step from reset -/

/-- X8: its frame as a presented word runs as the first operation after reset. -/
theorem test_step_runs_fetch_word :
    (after (step (State.reset.withFetchWord 48 0x100401FF1044))).map (fun t => (t.lock, t.out.result, t.port)) =
      some (⟨.locking, .locking, .locking, .locking⟩, .code 0, []) := by decide
/-- R105: an unnamed OPSEL is refused (U4). -/
theorem test_step_refuses_unnamed_opsel :
    refusal (step (State.reset.withFetchWord 8 0b11010)) = some .noSuchOperation := by decide

/-! ## Codec (COD-1 to COD-4) -/

theorem test_checksum_x8 : see (.checksum [1, 0xFF, 0x10]) State.reset (·.out.result) = some (.byte 0x44) := by decide
theorem test_checksum_five : see (.checksum [0x12, 0x34, 0x56, 0x78, 0x9A]) State.reset (·.out.result) = some (.byte 0x38) := by
  decide
theorem test_validateChecksum :
    see (.validateChecksum 0x44 [1, 0xFF, 0x10]) State.reset (·.out.result) = some (.bit true) ∧
    see (.validateChecksum 0x44 [1, 0xFE, 0x10]) State.reset (·.out.result) = some (.bit false) := by decide
theorem test_buildVc : see (.buildVc 10 5) State.reset (·.out.result) = some (.byte 0xA5) := by decide
theorem test_extractVersion : see (.extractVersion 0xA5) State.reset (·.out.result) = some (.nib 10) := by decide
theorem test_extractCounter : see (.extractCounter 0xA5) State.reset (·.out.result) = some (.nib 5) := by decide
theorem test_validateCounter_wrap : see (.validateCounter 0 15) State.reset (·.out.result) = some (.bit true) := by decide
theorem test_validateCounter_repeat : see (.validateCounter 0 0) State.reset (·.out.result) = some (.bit false) := by decide

/-! ## Fault Tracker (FT-1, FT-2) -/

/-- FT-1 before its third row: capacity 2, records 3 and 7. -/
def full : State :=
  { State.resetWith { cfgRef with faultCapacity := 2 } with
    records := [⟨3, 10, 10, 1⟩, ⟨7, 20, 20, 1⟩], flags := 0x0088, mostRecent := 7, recentTime := 20, lastNow := 30 }

theorem test_faultReport_drops_when_full :
    see (.faultReport 9 30) full (fun t => (t.records, t.flags, t.mostRecent)) =
      some ([⟨3, 10, 10, 1⟩, ⟨7, 20, 20, 1⟩], 0x0088, 7) := by decide
theorem test_faultReport_bumps_when_full :
    see (.faultReport 3 40) full (fun t => (t.records, t.mostRecent, t.recentTime)) =
      some ([⟨3, 10, 40, 2⟩, ⟨7, 20, 20, 1⟩], 3, 40) := by decide
theorem test_faultClear :
    see (.faultClear 7) full (fun t => (t.records, t.flags, t.mostRecent)) = some ([⟨3, 10, 10, 1⟩], 0x0008, 7) := by
  decide
theorem test_faultClearAll :
    see .faultClearAll full (fun t => (t.records, t.flags, t.mostRecent)) = some ([], 0, 7) := by decide
/-- The flag bit of 15, and none of 16 (R140). -/
theorem test_faultReport_flag_edge :
    see (.faultReport 15 70) State.reset (·.flags) = some 0x8000 ∧
    see (.faultReport 16 80) State.reset (·.flags) = some 0 := by decide
/-- The queries after the last row of FT-1. -/
def last : State :=
  { full with records := [⟨15, 70, 70, 1⟩, ⟨16, 80, 80, 1⟩], flags := 0x8000, mostRecent := 16 }
theorem test_faultIsActive :
    see (.faultIsActive 16) last (·.out.result) = some (.bit true) ∧
    see (.faultIsActive 3) last (·.out.result) = some (.bit false) := by decide
theorem test_faultCount : see .faultCount last (·.out.result) = some (.int 2) := by decide
theorem test_faultFlags : see .faultFlags last (·.out.result) = some (.bytes 0x00 0x80) := by decide
theorem test_faultMostRecent : see .faultMostRecent last (·.out.result) = some (.byte 16) := by decide
theorem test_renderFaultStatus :
    sent .renderFaultStatus { full with txCtr := ⟨0, 0, 0, 1, 0⟩ } =
      some [⟨0x230, [0x88, 0, 2, 7, 0, 0x14, 0x11, 0x22]⟩] := by decide

/-! ## Command validation (VAL-1 to VAL-22) -/

theorem test_val1_length :
    see (.route ⟨0x100, [1, 0xFF, 0x10]⟩ 5) State.reset (fun t => (t.out.result, t.vr.door, t.records, t.flags)) =
      some (.code 1, ⟨false, 0, 0, 1⟩, [⟨1, 5, 5, 1⟩], 0x0002) := by decide
theorem test_val5_checksum :
    see (.doorLockAll 0xFF 1 0 0x45 7) State.reset (fun t => (t.out.result, t.vr.door, t.records, t.flags)) =
      some (.code 2, ⟨false, 0, 0, 2⟩, [⟨2, 7, 7, 1⟩], 0x0004) := by decide
theorem test_val7_replay :
    see (.doorUnlockAll 0 1 9 0xB1 2) { State.reset with vr := { State.reset.vr with door := ⟨true, 9, 1, 0⟩ } }
      (fun t => (t.out.result, t.vr.door, t.records)) =
      some (.code 3, ⟨true, 9, 1, 3⟩, [⟨3, 2, 2, 1⟩]) := by decide
theorem test_val21_ignored : see (.route ⟨0x7FF, []⟩ 1) State.reset (·.out.result) = some .none := by decide
theorem test_val21_doorStatus :
    see (.doorStatus 0x0F 0 0 0 0x10 0xB5 1) State.reset (fun t => (t.out.result, t.lock, t.records)) =
      some (.none, State.reset.lock, []) := by decide
theorem test_lightingStatus_ignored :
    see (.lightingStatus 1 0x25 0x40 0 0x10 0xDE 1) State.reset (fun t => (t.out.result, t.vr)) =
      some (.none, State.reset.vr) := by decide
theorem test_turnStatus_ignored :
    see (.turnStatus 3 3 1 0 0x13 0xB8 1) State.reset (fun t => (t.out.result, t.turnMode)) = some (.none, .off) := by
  decide
theorem test_faultStatus_ignored :
    see (.faultStatus 0x88 0 2 7 0 0x14 0x11 0x22 1) State.reset (fun t => (t.out.result, t.flags)) = some (.none, 0) := by
  decide
theorem test_heartbeat_ignored :
    see (.heartbeat 1 2 0x12 0xBB 1) State.reset (fun t => (t.out.result, t.records)) = some (.none, []) := by decide

/-! ## Door (DOOR-1, VAL-11, VAL-12) -/

/-- The start state of DOOR-1. -/
def doors : State := { State.reset with lock := ⟨.unlocked, .locking, .locked, .unlocking⟩ }

theorem test_doorLockAll :
    see (.doorLockAll 0xFF 1 0 0x44 0) doors (·.lock) = some ⟨.locking, .locking, .locked, .locking⟩ := by decide
theorem test_doorUnlockAll :
    see (.doorUnlockAll 0 1 0 0xB8 0) doors (·.lock) = some ⟨.unlocked, .unlocking, .unlocking, .unlocking⟩ := by decide
theorem test_doorLockSingle :
    see (.doorLockSingle 2 1 5 0xBE 0) State.reset (fun t => (t.lock, t.vr.door)) =
      some (⟨.unlocked, .unlocked, .locking, .unlocked⟩, ⟨true, 5, 0, 0⟩) := by decide
theorem test_doorLockSingle_door_four :
    see (.doorLockSingle 4 1 0 0xBD 1) State.reset (fun t => (t.out.result, t.vr.door, t.records)) =
      some (.code 1, ⟨false, 0, 0, 1⟩, []) := by decide
theorem test_doorUnlockSingle :
    see (.doorUnlockSingle 2 1 0 0xBC 0) doors (·.lock) = some ⟨.unlocked, .locking, .unlocking, .unlocking⟩ := by decide
theorem test_doorUnlockSingle_door_255 :
    see (.doorUnlockSingle 0xFF 1 0 0x41 1) State.reset (fun t => (t.out.result, t.records)) = some (.code 1, []) := by
  decide
theorem test_doorTick : see .doorTick doors (·.lock) = some ⟨.unlocked, .locked, .locked, .unlocked⟩ := by decide
theorem test_setDoorOpen : see (.setDoorOpen 0b0101) doors (·.doorOpen) = some 5 := by decide
theorem test_renderDoorStatus :
    sent .renderDoorStatus { doors with lock := ⟨.unlocked, .locked, .locked, .unlocked⟩, doorOpen := 5 } =
      some [⟨0x200, [6, 5, 0, 0, 0x10, 0xB9]⟩] := by decide

/-! ## Lighting (LIGHT-1 to LIGHT-6, VAL-16) -/

/-- Mode, flag and output. -/
def lit (t : State) : HeadlightMode × Bool × HeadlightOutput := (t.headlightMode, t.highBeam, t.headlightOutput)

theorem test_lightHlOff :
    see (.lightHlOff 0 1 2 0xB8 0) { State.reset with headlightMode := .on, highBeam := true, headlightOutput := .highBeam }
      lit = some (.off, true, .off) := by decide
theorem test_lightHlOn : see (.lightHlOn 0 1 0 0xBB 0) State.reset lit = some (.on, false, .on) := by decide
theorem test_lightHlOn_illegal_interior :
    see (.lightHlOn 0x93 1 0 0x28 1) State.reset (fun t => (t.out.result, t.headlightMode, t.flags)) =
      some (.code 1, .off, 0x0010) := by decide
/-- LIGHT-1, next to last row: lit at once, and upgraded. -/
theorem test_lightHlAuto :
    see (.lightHlAuto 0 1 7 0xBF 0) { State.reset with highBeam := true } lit = some (.auto, true, .highBeam) := by decide
theorem test_lightHlAuto_in_band :
    see (.lightHlAuto 0 1 0 0xB8 0) { State.reset with ambientSample := 75 } lit = some (.auto, false, .off) := by decide
theorem test_lightHlHighOn : see (.lightHlHighOn 0 1 6 0xBF 0) State.reset lit = some (.off, true, .off) := by decide
theorem test_lightHlHighOff :
    see (.lightHlHighOff 0 1 2 0xBC 1)
      { State.reset with headlightMode := .auto, highBeam := true, headlightOutput := .highBeam, ambientSample := 75 }
      lit = some (.auto, false, .auto) := by decide
theorem test_lightIntOff :
    see (.lightIntOff 0 15 0 1 2 0x48 0) { State.reset with interiorMode := .auto, interiorBrightness := 9 }
      (fun t => (t.interiorMode, t.interiorBrightness)) = some (.off, 0) := by decide
theorem test_lightIntOn :
    see (.lightIntOn 1 9 3 1 0 0x26 1) State.reset (fun t => (t.interiorMode, t.interiorBrightness, t.headlightMode)) =
      some (.on, 9, .on) := by decide
theorem test_lightIntAuto :
    see (.lightIntAuto 0 0 0 1 1 0xB9 0) { State.reset with interiorMode := .on, interiorBrightness := 9 }
      (fun t => (t.interiorMode, t.interiorBrightness)) = some (.auto, 9) := by decide
/-- LIGHT-2: unlit at 50, lit at 49. -/
theorem test_setAmbient_falling :
    see (.setAmbient 50 10) { State.reset with headlightMode := .auto } lit = some (.auto, false, .off) ∧
    see (.setAmbient 49 10) { State.reset with headlightMode := .auto } lit = some (.auto, false, .auto) := by decide
/-- LIGHT-2: lit at 100, unlit at 101. -/
theorem test_setAmbient_rising :
    see (.setAmbient 100 10) { State.reset with headlightMode := .auto, headlightOutput := .auto } lit =
      some (.auto, false, .auto) ∧
    see (.setAmbient 101 10) { State.reset with headlightMode := .auto, headlightOutput := .auto } lit =
      some (.auto, false, .off) := by decide
/-- LIGHT-6. -/
theorem test_lightTick :
    see (.lightTick 5000) { State.reset with headlightMode := .auto, headlightOutput := .auto } (·.records) = some [] ∧
    see (.lightTick 5001) { State.reset with headlightMode := .auto, headlightOutput := .auto } (·.records) =
      some [⟨5, 5001, 5001, 1⟩] := by decide
/-- LIGHT-5. -/
theorem test_renderLightStatus :
    sent .renderLightStatus { State.reset with headlightMode := .on, headlightOutput := .on, interiorMode := .on,
                                               interiorBrightness := 9, ambientSample := 0x40 } =
      some [⟨0x210, [1, 0x25, 0x40, 0, 0x10, 0xDE]⟩] := by decide

/-! ## Turn signal (TURN-1 to TURN-6) -/

/-- The start state of TURN-1. -/
def turning (m : TurnMode) : State := { State.reset with turnMode := m, flashCount := 7, lastToggle := 100 }
/-- Mode, lamp, count and toggle time. -/
def lamp (t : State) : TurnMode × Bool × Byte × Time := (t.turnMode, t.lampOn, t.flashCount, t.lastToggle)

theorem test_turnOff : see (.turnOff 0 1 0 0xBA 900) (turning .left) lamp = some (.off, false, 7, 100) := by decide
theorem test_turnOff_in_hazard :
    see (.turnOff 0 1 0 0xBA 900) (turning .hazard) lamp = some (.hazard, false, 7, 100) := by decide
theorem test_turnLeft : see (.turnLeft 0 1 0 0xBB 900) (turning .right) lamp = some (.left, true, 0, 900) := by decide
theorem test_turnLeft_in_hazard :
    see (.turnLeft 0 1 0 0xBB 900) (turning .hazard) (fun t => (t.turnMode, t.out.result)) = some (.hazard, .code 0) := by
  decide
theorem test_turnRight : see (.turnRight 0 1 0 0xB8 900) (turning .left) lamp = some (.right, true, 0, 900) := by decide
theorem test_turnHazardOn : see (.turnHazardOn 0 1 0 0xB9 900) (turning .left) lamp = some (.hazard, true, 0, 900) := by
  decide
theorem test_turnHazardOff : see (.turnHazardOff 0 1 0 0xBE 900) (turning .hazard) lamp = some (.off, false, 7, 100) := by
  decide
theorem test_turnHazardOff_in_left :
    see (.turnHazardOff 0 1 0 0xBE 900) (turning .left) lamp = some (.left, false, 7, 100) := by decide
/-- TURN-5: the count wraps. -/
theorem test_turnTick_wrap :
    see (.turnTick 500) { State.reset with turnMode := .right, flashCount := 255 } lamp = some (.right, true, 0, 500) := by
  decide
/-- TURN-4: the hazard's shorter phase. -/
theorem test_turnTick_hazard :
    see (.turnTick 299) { State.reset with turnMode := .hazard, lampOn := true } lamp = some (.hazard, true, 0, 0) ∧
    see (.turnTick 300) { State.reset with turnMode := .hazard, lampOn := true } lamp = some (.hazard, false, 0, 300) := by
  decide
/-- TURN-6: the strict bound. -/
def idle : State := { State.reset with turnMode := .left, lampOn := true, vr := { State.reset.vr with turn := ⟨true, 0, 1000, 0⟩ } }
theorem test_checkTimeout :
    see (.checkTimeout 31000) idle (fun t => (t.turnMode, t.records)) = some (.left, []) ∧
    see (.checkTimeout 31001) idle (fun t => (t.turnMode, t.records)) = some (.off, [⟨5, 31001, 31001, 1⟩]) := by decide
theorem test_checkTimeout_hazard :
    see (.checkTimeout 999999) { idle with turnMode := .hazard } (fun t => (t.turnMode, t.records)) =
      some (.hazard, []) := by decide
theorem test_renderTurnStatus :
    sent .renderTurnStatus { State.reset with turnMode := .hazard, lampOn := true } =
      some [⟨0x220, [3, 3, 0, 0, 0x10, 0xBA]⟩] := by decide

/-! ## Scheduler (SCH-1, SCH-2) -/

theorem test_sched_nothing_due : see (.sched 9) State.reset (fun t => (t.lastFast, t.out.frames)) = some (0, []) := by
  decide
/-- SCH-1 at 500, from the reset state: five frames in order, all three stamps. -/
theorem test_sched_all_due :
    see (.sched 500) State.reset (fun t => (t.lastFast, t.lastStatus, t.lastSlow, t.out.frames)) =
      some (500, 500, 500, [⟨0x200, [0, 0, 0, 0, 0x10, 0xBA]⟩, ⟨0x210, [0, 0, 0, 0, 0x10, 0xBA]⟩,
        ⟨0x220, [0, 0, 0, 0, 0x10, 0xBA]⟩, ⟨0x240, [0, 0, 0x10, 0xBA]⟩,
        ⟨0x230, [0, 0, 0, 0, 0, 0, 0x10, 0xBA]⟩]) := by decide
theorem test_renderHeartbeat :
    sent (.renderHeartbeat 59999) State.reset = some [⟨0x240, [0, 0, 0x10, 0xBA]⟩] ∧
    sent (.renderHeartbeat 15300000) { full with txCtr := ⟨0, 0, 0, 0, 3⟩ } = some [⟨0x240, [1, 0xFF, 0x13, 0x47]⟩] := by
  decide

/-! ## Witnesses: states and operands that meet the hypotheses of each obligation, clause by clause -/

/-- A state with a legal configuration, a report to run next, and the Fault Tracker in use. -/
def busy : State := { full with port := [encode (.faultReport 3 40)] }
/-- A lit auto headlight with a sample to take next. -/
def auto : State :=
  { State.reset with headlightMode := .auto, highBeam := true, headlightOutput := .highBeam, ambientSample := 75,
                     port := [encode (.setAmbient 80 5)] }
/-- A lit hazard with a tick to run next. -/
def hazard : State := { State.reset with turnMode := .hazard, lampOn := true, port := [encode (.turnTick 300)] }
/-- A door channel that has accepted counter 9 at time 1. -/
def seeded : State := { State.reset with vr := { State.reset.vr with door := ⟨true, 9, 1, 0⟩ }, lastNow := 1 }

theorem test_witness_ResetHoldsTheTableValues : State.reset = State.resetWith cfgRef := rfl
theorem test_witness_ResetMeetsEveryInvariant : cfgRef.legal = true := by decide
theorem test_witness_StepRunsThePresentedOperation :
    busy.cfg.legal = true ∧ busy.port = encode (.faultReport 3 40) :: [] ∧
    decodeOperation 13 [40, 0, 0, 0, 3] = .ok (.faultReport 3 40) ∧
    encode (.faultReport 3 40) = ⟨.operation, [13, 40, 0, 0, 0, 3]⟩ := by decide
theorem test_witness_StepIdlesOrRefusesTheConfiguration :
    State.reset.cfg.legal = true ∧ State.reset.port = [] ∧
    ({ State.reset with cfg := { cfgRef with offThreshold := 50 } } : State).cfg.legal = false := by decide
theorem test_witness_OperationSelectNumbering :
    0b11010 ≤ (26 : Byte).toNat ∧ (31 : Byte).toNat ≤ 0b11111 ∧ State.reset.cfg.legal = true := by decide
theorem test_witness_DecodeInvertsEncode :
    (Instr.lightHlOff 3 1 2 0xB8 7).wellFormed = true ∧ (Instr.lightHlOff 3 1 2 0xB8 7).spelledByOwnRow ∧
    (Instr.lightIntOff 0 15 0 1 2 0x48 7).wellFormed = true ∧ (Instr.lightIntOff 0 15 0 1 2 0x48 7).spelledByOwnRow ∧
    (Instr.lightIntOff 9 0 0 1 2 0x48 7).spelledByOwnRow ∧ (Instr.lightIntAuto 0 9 1 1 2 0x48 7).spelledByOwnRow :=
  ⟨by decide, .inr (by decide), by decide, .inr ⟨by decide, by decide⟩, .inl (by decide), .inr (by decide)⟩
theorem test_witness_DecodeOfEncodeKeepsTheMeaning :
    (Instr.lightIntOn 1 9 3 1 0 0x26 1).wellFormed = true ∧ decode (encode (.lightIntOn 1 9 3 1 0 0x26 1)) =
      .ok (.lightHlOn 0x9D 1 0 0x26 1) := by decide
theorem test_witness_CommandWordsFollowTheOpcodeTable :
    0x100401FFFFFF#47 &&& 0x7fffff000000#47 = 0x100401000000#47 ∧
    0x100402FF1047#47 &&& 0x7fffff000000#47 = 0x100402000000#47 ∧
    0x100403000000#47 &&& 0x7fffff000000#47 = 0x100403000000#47 ∧
    0x10040401101F#47 &&& 0x7fffff000000#47 = 0x100404000000#47 ∧
    0x120400FFFFFF#47 &&& 0x7fffff000000#47 = 0x120400000000#47 ∧
    0x1204010010BB#47 &&& 0x7fffff000000#47 = 0x120401000000#47 ∧
    0x1204020015BD#47 &&& 0x7fffff000000#47 = 0x120402000000#47 ∧
    0x1204030011B8#47 &&& 0x7fffff000000#47 = 0x120403000000#47 ∧
    0x1204040014BA#47 &&& 0x7fffff000000#47 = 0x120404000000#47 := by decide
theorem test_witness_ChecksumFoldsFromTheSeed :
    ([1, 2, 3] : List Byte) ≠ [] ∧ ([3, 2, 1] : List Byte).Perm [1, 2, 3] ∧ (∀ b ∈ ([0, 0, 0] : List Byte), b = 0) := by
  decide
theorem test_witness_ValidateChecksumDetectsOneChangedByte :
    ([1, 0xFF, 0x10] : List Byte) ≠ [] ∧ 2 < ([1, 0xFF, 0x10] : List Byte).length ∧
    ([1, 0xFF, 0x10] : List Byte)[0] ≠ 0 ∧ ([1, 0xFF, 0x10] : List Byte)[2] ≠ 0x11 := by decide
theorem test_witness_VersionCounterBytePacksAndUnpacks :
    see (.buildVc 15 15) State.reset (·.out.result) = some (.byte 0xFF) := by decide
/-- A present code, a new code with room, a new code without. -/
theorem test_witness_FaultReportStoresOrDrops :
    (3 : Byte) ≠ 0 ∧ full.lastNow ≤ 30 ∧ findRecord 3 full.records = some ⟨3, 10, 10, 1⟩ ∧
    findRecord 9 full.records = none ∧ ¬ full.records.length < full.cfg.faultCapacity ∧
    findRecord 9 State.reset.records = none ∧ State.reset.records.length < State.reset.cfg.faultCapacity := by decide
theorem test_witness_FaultClearRemovesOneCode :
    (findRecord 7 full.records).isSome = true ∧ recordsRising full.records ∧ (findRecord 9 full.records).isSome = false := by
  refine ⟨by decide, ?_, by decide⟩
  unfold recordsRising
  decide
theorem test_witness_trackerInv : full.trackerInv := by
  refine ⟨by decide, ?_, by decide, by decide, test_witness_FaultClearRemovesOneCode.2.1⟩
  decide
theorem test_witness_FaultClearAllAndQueries : full.trackerInv := test_witness_trackerInv
theorem test_witness_FaultTrackerInvariantKept :
    busy.trackerInv ∧ (after (step busy)).map (·.records) = some [⟨3, 10, 40, 2⟩, ⟨7, 20, 20, 1⟩] :=
  ⟨test_witness_trackerInv, by decide⟩
theorem test_witness_FaultCapacityBoundsTheLog :
    State.reset.records = [] ∧ ([1, 2, 3, 4, 5, 6, 7, 8, 9] : List Byte).Nodup ∧
    (∀ c ∈ ([1, 2, 3, 4, 5, 6, 7, 8, 9] : List Byte), c ≠ 0) := by decide
theorem test_witness_CoreReportsOnlyFiveCodes :
    see (.doorLockAll 0xFF 1 0 0x45 7) State.reset (faultActive 2) = some true ∧
    (∀ code now, Instr.doorLockAll 0xFF 1 0 0x45 7 ≠ .faultReport code now) :=
  ⟨by decide, fun _ _ h => nomatch h⟩
/-- Lengths 0, 3, 5 and 8. -/
theorem test_witness_WrongLengthIsRejected :
    State.reset.lastNow ≤ 5 ∧ ∀ d ∈ ([[], [1, 2, 3], [1, 2, 3, 4, 5], [1, 2, 3, 4, 5, 6, 7, 8]] : List (List Byte)),
      d.length ≤ 8 ∧ d.length ≠ 4 := by decide
theorem test_witness_BadChecksumIsRejected :
    State.reset.lastNow ≤ 7 ∧ (0x45 : Byte) ≠ 0xAA ^^^ 0x01 ^^^ 0xFF ^^^ 0x10 := by decide
/-- A replay, the next counter, and an unseeded channel. -/
theorem test_witness_BadCounterIsRejected :
    seeded.lastNow ≤ 2 ∧ (0xB1 : Byte) = 0xAA ^^^ 0x02 ^^^ 0x00 ^^^ (1#4 ++ 9#4) ∧
    ((seeded.vr.get .door).seeded = true ∧ (9 : Nib).toNat ≠ ((seeded.vr.get .door).lastCounter.toNat + 1) % 16) ∧
    (0xB2 : Byte) = 0xAA ^^^ 0x02 ^^^ 0x00 ^^^ (1#4 ++ 10#4) ∧
    (10 : Nib).toNat = ((seeded.vr.get .door).lastCounter.toNat + 1) % 16 ∧
    (seeded.vr.get .light).seeded = false := by decide
/-- Door command 0, 5 and 255; headlight code 5; interior mode 3; turn command 5. -/
theorem test_witness_IllegalCommandsAreRejected :
    State.reset.lastNow ≤ 1 ∧ State.reset.admits .door 0 0 1 7 0xBD ∧ seeded.admits .door 5 0 1 10 0xB5 ∧
    State.reset.admits .door 0xFF 0 1 0 0x45 ∧ State.reset.admits .light 5 0 1 0 0xBF ∧
    State.reset.admits .light 1 0x93 1 0 0x28 ∧ (0x93 : Byte).toNat % 4 = 3 ∧ State.reset.admits .turn 5 0 1 0 0xBF := by
  refine ⟨?_, ⟨?_, ?_⟩, ⟨?_, ?_⟩, ⟨?_, ?_⟩, ⟨?_, ?_⟩, ⟨?_, ?_⟩, ?_, ⟨?_, ?_⟩⟩ <;> decide
/-- Doors 4 and 255 with the single commands, door 3 with one, and LockAll with 255. -/
theorem test_witness_DoorSelectIsRejectedWithoutFault :
    State.reset.lastNow ≤ 1 ∧ 1 ≤ (1 : Byte).toNat ∧ (4 : Byte).toNat ≤ 4 ∧ 3 < (4 : Byte).toNat ∧
    State.reset.admits .door 3 4 1 0 0xBD ∧ State.reset.admits .door 4 0xFF 1 0 0x41 ∧
    State.reset.admits .door 4 3 1 0 0xBD ∧ State.reset.admits .door 1 0xFF 1 0 0x44 := by
  refine ⟨?_, ?_, ?_, ?_, ⟨?_, ?_⟩, ⟨?_, ?_⟩, ⟨?_, ?_⟩, ⟨?_, ?_⟩⟩ <;> decide
/-- A first frame on each channel, door 0 and door 3. -/
theorem test_witness_RouteAcceptsLegalCommands :
    State.reset.lastNow ≤ 0 ∧ State.reset.admits .door 1 0xFF 1 0 0x44 ∧ State.reset.admits .door 4 3 1 0 0xBD ∧
    State.reset.admits .light 4 0xF1 1 0 0x4F ∧ State.reset.admits .turn 4 0 1 0 0xBE ∧
    State.reset.admits .turn 0 0xFF 15 15 0xAA := by
  refine ⟨?_, ⟨?_, ?_⟩, ⟨?_, ?_⟩, ⟨?_, ?_⟩, ⟨?_, ?_⟩, ⟨?_, ?_⟩⟩ <;> decide
theorem test_witness_RejectionWritesNothingElse :
    see (.route ⟨0x100, [1, 0xFF, 0x10, 0x45]⟩ 7) State.reset (·.out.result) = some (.code 2) := by decide
theorem test_witness_CommandsStayOnTheirChannel :
    see (.route ⟨0x100, [1, 0xFF, 0x10, 0x44]⟩ 7) State.reset (·.lastNow) = some 7 ∧ (0x100 : Ident) ≠ 0x110 ∧
    (0x100 : Ident) ≠ 0x120 ∧ ∀ ch ∈ [Channel.light, Channel.turn], (0x100 : Ident) ≠ ch.ident := by decide
theorem test_witness_UnrecognisedFramesAreIgnored :
    State.reset.lastNow ≤ 1 ∧ ∀ i ∈ ([0x0FF, 0x101, 0x200, 0x7FF] : List Ident), i ≠ 0x100 ∧ i ≠ 0x110 ∧ i ≠ 0x120 := by
  decide
theorem test_witness_FrameRowMeansRouteOfItsFrame :
    (Instr.lightIntOn 1 9 3 1 0 0x26 1).frame? = some (⟨0x110, [1, 0x9D, 0x10, 0x26]⟩, 1) := by decide
theorem test_witness_RollingCounterAdvancesByOne :
    see (.doorUnlockAll 0 1 10 0xB2 4) seeded (·.vr.door) = some ⟨true, 10, 4, 0⟩ := by decide
theorem test_witness_DoorAllCommandsDriveEveryDoor :
    doors.lastNow ≤ 0 ∧ doors.admits .door 1 0xFF 1 0 0x44 ∧ doors.admits .door 2 0 1 0 0xB8 := by
  refine ⟨?_, ⟨?_, ?_⟩, ⟨?_, ?_⟩⟩ <;> decide
/-- Doors 0 and 3, and 4 and 255. -/
theorem test_witness_DoorSingleCommandsDriveOneDoor :
    doors.lastNow ≤ 0 ∧ (3 : Byte).toNat ≤ 3 ∧ doors.admits .door 3 3 1 0 0xBA ∧ doors.admits .door 4 0 1 0 0xBE ∧
    doors.admits .door 3 4 1 0 0xBD ∧ 3 < (4 : Byte).toNat ∧ doors.admits .door 4 0xFF 1 0 0x41 := by
  refine ⟨?_, ?_, ⟨?_, ?_⟩, ⟨?_, ?_⟩, ⟨?_, ?_⟩, ?_, ⟨?_, ?_⟩⟩ <;> decide
/-- An operation that does not show the latch, and one that does. -/
theorem test_witness_DoorOpenIsOnlyShown :
    see (.sched 100) State.reset (·.doorOpen) = some 0 ∧ (after (exec .doorTick doors)).isSome = true ∧
    (∀ m, Instr.sched 100 ≠ .setDoorOpen m) ∧ (∀ m, Instr.doorTick ≠ .setDoorOpen m) ∧
    Instr.doorTick ≠ .renderDoorStatus ∧ (∀ now, Instr.doorTick ≠ .sched now) :=
  ⟨by decide, by decide, fun _ h => (nomatch h), fun _ h => (nomatch h), fun h => (nomatch h), fun _ h => (nomatch h)⟩
/-- Interior modes 0, 1 and 2 (0xFE). -/
theorem test_witness_HeadlightCommandsSetModeAndFlag :
    auto.lastNow ≤ 0 ∧ (0xFE : Byte).toNat % 4 ≠ 3 ∧ auto.admits .light 0 0 1 2 0xB8 ∧ auto.admits .light 1 0x91 1 0 0x2A ∧
    auto.admits .light 2 0xFE 1 0 0x46 ∧ auto.admits .light 3 2 1 4 0xBF ∧ auto.admits .light 4 0 1 4 0xBA := by
  refine ⟨?_, ?_, ⟨?_, ?_⟩, ⟨?_, ?_⟩, ⟨?_, ?_⟩, ⟨?_, ?_⟩, ⟨?_, ?_⟩⟩ <;> decide
/-- Headlight codes 0 and 4. -/
theorem test_witness_InteriorCommandsSetModeAndBrightness :
    auto.lastNow ≤ 0 ∧ (4 : Byte).toNat ≤ 4 ∧ auto.admits .light 0 (15#4 ++ 0#2 ++ 0#2) 1 2 0x48 ∧
    auto.admits .light 0 (9#4 ++ 0#2 ++ 1#2) 1 0 0x2B ∧ auto.admits .light 4 (0#4 ++ 3#2 ++ 2#2) 1 0 0xB0 := by
  refine ⟨?_, ?_, ⟨?_, ?_⟩, ⟨?_, ?_⟩, ⟨?_, ?_⟩⟩ <;> decide
/-- Headlight code 4 from any mode; an operation in interior mode `Auto` that stays there. -/
theorem test_witness_AutoLeavesTheBrightness :
    auto.lastNow ≤ 0 ∧ (4 : Byte).toNat ≤ 4 ∧ auto.admits .light 4 (0#4 ++ 3#2 ++ 2#2) 1 0 0xB0 ∧
    see (.lightTick 9) { auto with interiorMode := .auto, interiorBrightness := 9 }
      (fun t => (t.interiorMode, t.interiorBrightness)) = some (.auto, 9) := by
  refine ⟨?_, ?_, ⟨?_, ?_⟩, ?_⟩ <;> decide
theorem test_witness_SetAmbientRecomputesTheOutput : auto.lastNow ≤ 5 := by decide
/-- Both bounds of the band. -/
theorem test_witness_HysteresisBandDoesNotChatter :
    auto.headlightMode = .auto ∧ ∀ a ∈ ([50, 75, 100] : List Byte), auto.cfg.onThreshold ≤ a ∧ a ≤ auto.cfg.offThreshold := by
  decide
theorem test_witness_LightTickReportsAStaleSensor :
    auto.lastNow ≤ 5001 ∧ auto.headlightMode = .auto ∧ auto.outputSettled := by
  unfold State.outputSettled
  decide
theorem test_witness_LightingInvariantKept :
    auto.lightingInv ∧ (after (step auto)).map (·.headlightOutput) = some .highBeam := by
  refine ⟨⟨?_, ?_, ?_, ?_⟩, ?_⟩ <;> decide
theorem test_witness_OutputStaysSettled :
    auto.outputSettled ∧ (after (step auto)).map (·.ambientSample) = some 80 := by
  unfold State.outputSettled
  decide
theorem test_witness_TurnCommandsFollowTheTable :
    hazard.lastNow ≤ 900 ∧ hazard.admits .turn 0 0 1 0 0xBA ∧ hazard.admits .turn 1 0xFF 1 0 0x44 ∧
    hazard.admits .turn 2 0 1 0 0xB8 ∧ hazard.admits .turn 3 0 1 0 0xB9 ∧ hazard.admits .turn 4 0 1 0 0xBE := by
  refine ⟨?_, ⟨?_, ?_⟩, ⟨?_, ?_⟩, ⟨?_, ?_⟩, ⟨?_, ?_⟩, ⟨?_, ?_⟩⟩ <;> decide
theorem test_witness_HazardIsSticky :
    hazard.turnMode = .hazard ∧ see (.turnHazardOff 0 1 0 0xBE 900) hazard (·.turnMode) = some .off ∧
    see (.route ⟨0x120, [4, 0, 0x10, 0xBE]⟩ 900) hazard (·.turnMode) = some .off := by decide
theorem test_witness_TurnTickFlipsOnce : hazard.lastNow ≤ 300 := by decide
theorem test_witness_CheckTimeoutCancelsAnIdleDirection : idle.lastNow ≤ 31001 ∧ idle.turnMode = .left := by decide
theorem test_witness_LampStaysOutInOff :
    hazard.turnInv ∧ (after (step hazard)).map (·.lampOn) = some false ∧ State.reset.turnInv ∧
    (after (step State.reset)).isSome = true := by
  unfold State.turnInv
  decide
theorem test_witness_SchedRunsTheDueTriggers : State.reset.lastNow ≤ 500 := by decide
theorem test_witness_SchedDoesNotCatchUp :
    State.reset.cfg.legal = true ∧ see (.sched 5000) State.reset (·.lastSlow) = some 5000 := by decide
theorem test_witness_HeartbeatShowsFaultAndUptime : full.lastNow ≤ 15300000 := by decide
theorem test_witness_EmittedFramesAreSound : sent .renderTurnStatus hazard = some [⟨0x220, [3, 3, 0, 0, 0x10, 0xBA]⟩] := by
  decide
theorem test_witness_TxCountersCountTheFrames :
    see .renderTurnStatus { hazard with txCtr := ⟨0, 0, 15, 0, 0⟩ } (·.txCtr) = some ⟨0, 0, 0, 0, 0⟩ := by decide
theorem test_witness_OperationsCompleteExactlyWhenLegal :
    (Instr.sched 5).wellFormed = true ∧ (Instr.sched 5).time? = some 5 ∧ State.reset.lastNow ≤ 5 := by decide
theorem test_witness_StoredTimesStayInThePast :
    busy.clockInv ∧ (after (step busy)).map (·.lastNow) = some 40 := by
  refine ⟨⟨?_, ?_, ?_, ?_, ?_, ?_, ?_, ?_, ?_, ?_⟩, ?_⟩ <;> decide
theorem test_witness_ConfigurationIsNeverWritten : (after (step busy)).map (·.port) = some [] := by decide
theorem test_witness_QueriesChangeNoState : see (.faultIsActive 3) full (·.out.result) = some (.bit true) := by decide

end Sys2Proof.Tests
end

