-- ==== Sys2Proof/Proofs/Scope.lean ====
section
/-! PROOFS. The scope of the core (00_scope.md): the configuration is fixed at reset (R11) and the port is the
environment's (R62, R67); no operation writes either, and a step only takes the operation presented first. -/

namespace Sys2Proof.Machine

/-! ## What an operation does not own -/

@[simp] theorem applyLighting_cfg (h : HeadlightCmd) (m : InteriorCmd) (s : State) :
    (applyLighting h m s).cfg = s.cfg := by
  cases h <;> cases m <;> rfl

@[simp] theorem applyLighting_port (h : HeadlightCmd) (m : InteriorCmd) (s : State) :
    (applyLighting h m s).port = s.port := by
  cases h <;> cases m <;> rfl

/-- The state has the configuration `c`, and `q` stands presented at its port. -/
def State.hasCfgPort (c : Config) (q : List Packet) (s : State) : Prop := s.cfg = c ∧ s.port = q

/-- No single update of an operation writes the configuration or the port. The three updates with a case split
of their own go by their frame lemmas; the others write neither field as they stand. -/
theorem keeps_hasCfgPort (c : Config) (q : List Packet) : Keeps (State.hasCfgPort c q) where
  returning := fun _ _ h => h
  send := fun _ _ _ _ h => h
  report := fun _ _ _ _ h => ⟨(reportFault_cfg _ _ _).trans h.1, (reportFault_port _ _ _).trans h.2⟩
  result := fun _ _ _ _ h => h
  accept := fun _ _ _ h _ => h
  lock := fun _ _ h => h
  lighting := fun _ _ _ h => ⟨(applyLighting_cfg _ _ _).trans h.1, (applyLighting_port _ _ _).trans h.2⟩
  recompute := fun _ h => h
  ambient := fun _ _ h => h
  enter := fun _ _ _ _ h => h
  leave := fun _ _ h => h
  flip := fun _ _ h => h
  fast := fun _ h => h
  status := fun _ h => h
  slow := fun _ h => h
  clear := fun _ _ h => ⟨(clearFault_cfg _ _).trans h.1, (clearFault_port _ _).trans h.2⟩
  clearAll := fun _ h => h
  doorOpen := fun _ _ h => h

/-- R11, R62: no operation writes the configuration or what else is presented. -/
theorem exec_cfg_port {i : Instr} {s t : State} (h : exec i s = .next t) : t.cfg = s.cfg ∧ t.port = s.port :=
  (keeps_hasCfgPort s.cfg s.port).exec
    (fun _ _ _ _ _ hu => ⟨(reportFault_cfg _ _ _).trans hu.1, (reportFault_port _ _ _).trans hu.2⟩)
    (fun _ _ hu => hu) (fun _ _ => ⟨rfl, rfl⟩) h

/-! ## What a step does -/

/-- R67, R321: a step that answers is idle at an empty port, or performs the operation presented first on the
state with that operation taken; either way the configuration is legal (U7). -/
theorem step_eq_next (s t : State) :
    step s = .next t ↔ s.cfg.legal = true ∧
      ((s.port = [] ∧ t = s) ∨
       (∃ p rest i, s.port = p :: rest ∧ decode p = .ok i ∧ exec i { s with port := rest } = .next t)) := by
  unfold step takePresented
  by_cases hl : s.cfg.legal = true
  · rw [if_pos hl]
    cases hp : s.port with
    | nil => simp [hl, eq_comm]
    | cons p rest => cases hd : decode p <;> simp [hl, hd]
  · simp [hl]

/-- Settles O59: an idle step changes nothing at all; any other takes the first operation off the port and
performs it, which writes neither the configuration nor the rest of the port (`exec_cfg_port`). -/
theorem configurationIsNeverWritten : Obligations.ConfigurationIsNeverWritten := by
  unfold Obligations.ConfigurationIsNeverWritten
  intro s t h
  obtain ⟨-, ⟨hport, rfl⟩ | ⟨p, rest, i, hport, -, hexec⟩⟩ := (step_eq_next s t).1 h
  case inl => exact ⟨rfl, by rw [hport, List.tail_nil]⟩
  case inr =>
    obtain ⟨hcfg, hrest⟩ := exec_cfg_port hexec
    exact ⟨hcfg, by rw [hrest, hport, List.tail_cons]⟩

end Sys2Proof.Machine
end

