-- ==== Sys2Proof/Proofs/State.lean ====
section
/-! PROOFS. The state of the core (10_state.md): the reset table (R41), the invariants every step keeps (R29,
R31, R35), and which fields a command frame may write (R40, R260). -/

namespace Sys2Proof.Machine

/-! ## The Fault Tracker -/

/-- R35 (d): no record has code 0 exactly when code 0 is not active. -/
theorem codes_ne_zero_iff (s : State) : (∀ r ∈ s.records, r.code ≠ 0) ↔ faultActive 0 s = false := by
  rw [← Bool.not_eq_true, faultActive, findRecord_isSome_iff]
  exact ⟨fun h ⟨r, hr, h0⟩ => h r hr h0, fun h r hr h0 => h ⟨r, hr, h0⟩⟩

/-- R141: a bump leaves the set of present codes as it was. -/
theorem isSome_findRecord_bump (c c' : Byte) (now : Time) (rs : List FaultRecord) :
    (findRecord c' (bumpRecord c now rs)).isSome = (findRecord c' rs).isSome := by
  rw [findRecord_bump]
  split
  next h => rw [h, Option.isSome_map]
  next => rfl

/-- R35 of a state whose tracker differs from that of `s` by the record and the flag of the code `c`. -/
theorem State.trackerInv.report {s t : State} {c : Byte} (h : s.trackerInv) (hc : c ≠ 0)
    (hlen : t.records.length ≤ t.cfg.faultCapacity)
    (hactive : ∀ c', faultActive c' t = (faultActive c' s || decide (c' = c)))
    (hflags : t.flags = setFlag s.flags c) (hrising : recordsRising t.records) : t.trackerInv := by
  obtain ⟨-, hbits, hbit0, hcodes, -⟩ := h
  refine ⟨hlen, fun c' h1 h15 => ?_, ?_, ?_, hrising⟩
  · rw [hflags, getLsbD_setFlag, hbits c' h1 h15, hactive]
    simp [h15, BitVec.toNat_inj]
  · have hcode : 0 ≠ c.toNat := fun h0 => hc (BitVec.eq_of_toNat_eq h0.symm)
    rw [hflags, getLsbD_setFlag, hbit0]
    simp [hcode]
  · rw [codes_ne_zero_iff] at hcodes ⊢
    rw [hactive, hcodes, Bool.false_or]
    exact decide_eq_false hc.symm

/-- R35, R141: a report of a code other than 0 keeps the tracker's invariant, stored or dropped. -/
theorem reportFault_trackerInv {s : State} {c : Byte} (now : Time) (hc : c ≠ 0) (h : s.trackerInv) :
    (reportFault c now s).trackerInv := by
  have ⟨hlen, _, _, _, hrising⟩ := h
  rcases reportFault_cases c now s with ⟨hfound, e⟩ | ⟨habsent, hroom, e⟩ | ⟨-, -, e⟩ <;> rw [e]
  case inl =>
    refine h.report hc ((length_bump _ _ _).trans_le hlen) (fun c' => ?_) rfl (recordsRising_bump _ _ hrising)
    simp only [faultActive, noteReport, isSome_findRecord_bump]
    by_cases hcc : c' = c <;> simp [hcc, hfound]
  case inr.inl =>
    refine h.report hc ((length_insert _ _).trans_le hroom) (fun c' => ?_) rfl
      (recordsRising_insert _ hrising habsent)
    simp only [faultActive, noteReport, findRecord_insert ⟨c, now, now, 1⟩ c' s.records habsent]
    by_cases hcc : c' = c <;> simp [hcc]
  case inr.inr => exact h

/-- R35, R143: a clear keeps the tracker's invariant, whether or not the code is present. -/
theorem clearFault_trackerInv {s : State} (c : Byte) (h : s.trackerInv) : (clearFault c s).trackerInv := by
  have ⟨hlen, hbits, hbit0, hcodes, hrising⟩ := h
  rcases clearFault_cases c s with ⟨-, e⟩ | ⟨-, e⟩ <;> rw [e]
  case inl =>
    refine ⟨?_, fun c' h1 h15 => ?_, ?_, fun r hr => hcodes r ?_, recordsRising_remove c hrising⟩
    · rw [removeRecord_eq_filter]
      exact (List.length_filter_le _ _).trans hlen
    · simp only [getLsbD_clearFlag, hbits c' h1 h15, faultActive, findRecord_remove]
      by_cases hcc : c' = c
      · simp [hcc, hcc ▸ h15]
      · simp [hcc, BitVec.toNat_inj]
    · rw [getLsbD_clearFlag, hbit0, Bool.false_and]
    · rw [removeRecord_eq_filter] at hr
      exact List.mem_of_mem_filter hr
  case inr => exact h

/-- R35 holds of an empty tracker. -/
theorem trackerInv_of_empty {s : State} (hrecords : s.records = []) (hflags : s.flags = 0) : s.trackerInv := by
  refine ⟨?_, fun c _ _ => ?_, ?_, ?_, ?_⟩ <;> simp [hrecords, hflags, faultActive, findRecord, recordsRising]

/-- R35: every single update keeps the tracker's invariant; those of the Fault Tracker by the lemmas above, the
others because they write neither the records, the flags nor the capacity. -/
theorem keeps_trackerInv : Keeps State.trackerInv where
  returning := fun _ _ h => h
  send := fun _ _ _ _ h => h
  report := fun s _ h1 _ h => reportFault_trackerInv s.lastNow (by rintro rfl; simp at h1) h
  result := fun _ _ _ _ h => h
  accept := fun _ _ _ h _ => h
  lock := fun _ _ h => h
  lighting := fun _ c m h => by cases c <;> cases m <;> exact h
  recompute := fun _ h => h
  ambient := fun _ _ h => h
  enter := fun _ _ _ _ h => h
  leave := fun _ _ h => h
  flip := fun _ _ h => h
  fast := fun _ h => h
  status := fun _ h => h
  slow := fun _ h => h
  clear := fun _ c h => clearFault_trackerInv c h
  clearAll := fun _ _ => trackerInv_of_empty rfl rfl
  doorOpen := fun _ _ h => h

/-- Settles O17: the invariant of R35 is kept by every update (`keeps_trackerInv`), so by every step. -/
theorem faultTrackerInvariantKept : Obligations.FaultTrackerInvariantKept := by
  unfold Obligations.FaultTrackerInvariantKept
  intro s t h hstep
  exact keeps_trackerInv.step (fun u _ hc hu => reportFault_trackerInv u.lastNow hc hu) (fun _ hu => hu)
    (fun _ _ hu => hu) (fun _ _ hu _ => hu) h hstep

/-! ## Lighting -/

/-- R29, R212: recomputation alone brings the output in line with mode and flag, whatever it was before. -/
theorem recomputeOutput_lightingInv (s : State) : (recomputeOutput s).lightingInv := by
  unfold State.lightingInv recomputeOutput computedOutput
  cases s.headlightMode
  case off => simp
  case on => cases s.highBeam <;> simp
  case auto => cases s.highBeam <;> cases autoLit s <;> simp

/-- R29 reads the mode, the flag and the output only. -/
theorem State.lightingInv.congr {s t : State} (h : s.lightingInv) (hmode : t.headlightMode = s.headlightMode)
    (hbeam : t.highBeam = s.highBeam) (hout : t.headlightOutput = s.headlightOutput) : t.lightingInv := by
  unfold State.lightingInv at *
  rwa [hmode, hbeam, hout]

theorem reportFault_lightingInv {s : State} (c : Byte) (now : Time) (h : s.lightingInv) :
    (reportFault c now s).lightingInv :=
  h.congr (reportFault_headlightMode _ _ _) (reportFault_highBeam _ _ _) (reportFault_headlightOutput _ _ _)

/-- R29: every update that writes mode, flag or output ends with the recomputation; the others write none of
the three. -/
theorem keeps_lightingInv : Keeps State.lightingInv where
  returning := fun _ _ h => h
  send := fun _ _ _ _ h => h
  report := fun s c _ _ h => reportFault_lightingInv c s.lastNow h
  result := fun _ _ _ _ h => h
  accept := fun _ _ _ h _ => h
  lock := fun _ _ h => h
  lighting := fun _ _ _ _ => recomputeOutput_lightingInv _
  recompute := fun _ _ => recomputeOutput_lightingInv _
  ambient := fun _ _ _ => recomputeOutput_lightingInv _
  enter := fun _ _ _ _ h => h
  leave := fun _ _ h => h
  flip := fun _ _ h => h
  fast := fun _ h => h
  status := fun _ h => h
  slow := fun _ h => h
  clear := fun _ _ h =>
    h.congr (clearFault_headlightMode _ _) (clearFault_highBeam _ _) (clearFault_headlightOutput _ _)
  clearAll := fun _ h => h
  doorOpen := fun _ _ h => h

/-- Settles O43: the invariant of R29 is kept by every update (`keeps_lightingInv`), so by every step. -/
theorem lightingInvariantKept : Obligations.LightingInvariantKept := by
  unfold Obligations.LightingInvariantKept
  intro s t h hstep
  exact keeps_lightingInv.step (fun u c _ hu => reportFault_lightingInv c u.lastNow hu) (fun _ hu => hu)
    (fun _ _ hu => hu) (fun _ _ hu _ => hu) h hstep

/-! ## Turn signal -/

theorem reportFault_turnInv {s : State} (c : Byte) (now : Time) (h : s.turnInv) :
    (reportFault c now s).turnInv := by
  unfold State.turnInv at *
  rwa [reportFault_turnMode, reportFault_lampOn]

theorem clearFault_turnInv {s : State} (c : Byte) (h : s.turnInv) : (clearFault c s).turnInv := by
  unfold State.turnInv at *
  rwa [clearFault_turnMode, clearFault_lampOn]

/-- R31: a direction is entered in a mode other than `Off`, leaving it puts the lamp out, the lamp flips outside
`Off` only, and nothing else writes mode or lamp. -/
theorem keeps_turnInv : Keeps State.turnInv where
  returning := fun _ _ h => h
  send := fun _ _ _ _ h => h
  report := fun s c _ _ h => reportFault_turnInv c s.lastNow h
  result := fun _ _ _ _ h => h
  accept := fun _ _ _ h _ => h
  lock := fun _ _ h => h
  lighting := fun _ c m h => by cases c <;> cases m <;> exact h
  recompute := fun _ h => h
  ambient := fun _ _ h => h
  enter := fun _ _ hm _ _ hoff => absurd hoff hm
  leave := fun _ _ _ _ => rfl
  flip := fun _ hm _ hoff => absurd hoff hm
  fast := fun _ h => h
  status := fun _ h => h
  slow := fun _ h => h
  clear := fun _ c h => clearFault_turnInv c h
  clearAll := fun _ h => h
  doorOpen := fun _ _ h => h

/-- Settles O50: the lamp rule of R31 is kept by every update (`keeps_turnInv`), so by every step. -/
theorem lampStaysOutInOff : Obligations.LampStaysOutInOff := by
  unfold Obligations.LampStaysOutInOff
  intro s t h hstep
  exact keeps_turnInv.step (fun u c _ hu => reportFault_turnInv c u.lastNow hu) (fun _ _ _ => rfl)
    (fun _ _ hu => hu) (fun _ _ hu _ => hu) h hstep

/-! ## Reset -/

/-- Settles O1: each field of `State.resetWith` is the value of its row; the indexed fields index by index. -/
theorem resetHoldsTheTableValues : Obligations.ResetHoldsTheTableValues := by
  unfold Obligations.ResetHoldsTheTableValues
  refine ⟨⟨cfgRef, rfl⟩, ?_⟩
  rintro c s rfl
  have hrecords : ∀ ch, (State.resetWith c).vr.get ch = ⟨false, 0, 0, 0⟩ := fun ch => by cases ch <;> rfl
  have hlocks : ∀ i, (State.resetWith c).lock.get i = .unlocked := fun i => by
    simp [State.resetWith, Locks.get]
  have hcounters : ∀ ch, (State.resetWith c).txCtr.get ch = 0 := fun ch => by cases ch <;> rfl
  exact ⟨hrecords, hlocks, rfl, rfl, rfl, rfl, rfl, rfl, rfl, rfl, rfl, rfl, rfl, rfl, rfl, rfl, rfl, rfl,
    hcounters, rfl, rfl, rfl⟩

/-- R41, R326: right after reset every stored time is 0, the last presented time too. -/
theorem resetWith_clockInv (c : Config) : (State.resetWith c).clockInv := by
  simp [State.clockInv, State.resetWith, ValRec.reset]

/-- Settles O2: the reset output is a recomputed one, the lamp is out, the tracker is empty, and every time
is 0. -/
theorem resetMeetsEveryInvariant : Obligations.ResetMeetsEveryInvariant := by
  unfold Obligations.ResetMeetsEveryInvariant
  intro c _
  exact ⟨recomputeOutput_lightingInv (State.resetWith c), rfl, fun _ => rfl, trackerInv_of_empty rfl rfl,
    resetWith_clockInv c⟩

/-! ## What a command frame may write -/

/-- R40, R260: `t` differs from `s` at most in the validation record and the subsystem of the channels that
`touched` names, in the Fault Tracker, and in the returned result. -/
structure Confined (touched : Channel → Prop) (s t : State) : Prop where
  vr : ∀ ch, ¬ touched ch → t.vr.get ch = s.vr.get ch
  door : ¬ touched .door → t.lock = s.lock
  light : ¬ touched .light → t.headlightMode = s.headlightMode ∧ t.highBeam = s.highBeam ∧
    t.headlightOutput = s.headlightOutput ∧ t.interiorMode = s.interiorMode ∧
    t.interiorBrightness = s.interiorBrightness
  turn : ¬ touched .turn → t.turnMode = s.turnMode ∧ t.lampOn = s.lampOn ∧ t.flashCount = s.flashCount ∧
    t.lastToggle = s.lastToggle
  rest : t.doorOpen = s.doorOpen ∧ t.ambientSample = s.ambientSample ∧ t.ambientTime = s.ambientTime ∧
    t.txCtr = s.txCtr ∧ t.lastFast = s.lastFast ∧ t.lastStatus = s.lastStatus ∧ t.lastSlow = s.lastSlow ∧
    t.cfg = s.cfg ∧ t.port = s.port ∧ t.lastNow = s.lastNow ∧ t.out.frames = s.out.frames

section
variable {touched : Channel → Prop} {s t : State}

theorem Confined.refl (touched : Channel → Prop) (s : State) : Confined touched s s where
  vr := fun _ _ => rfl
  door := fun _ => rfl
  light := fun _ => ⟨rfl, rfl, rfl, rfl, rfl⟩
  turn := fun _ => ⟨rfl, rfl, rfl, rfl⟩
  rest := ⟨rfl, rfl, rfl, rfl, rfl, rfl, rfl, rfl, rfl, rfl, rfl⟩

/-- R40: a write to a channel of `touched` leaves the validation records of the channels outside it alone. -/
theorem get_put_of_not_touched {ch : Channel} (hch : touched ch) (v : ValRecs) (r : ValRec) (ch' : Channel)
    (h : ¬ touched ch') : (v.put ch r).get ch' = v.get ch' :=
  ValRecs.get_put_ne v r (fun e => h (e ▸ hch))

/-- R166: a rejection writes its own validation record, the Fault Tracker and the result. -/
theorem confined_reject {ch : Channel} (hch : touched ch) (res : Byte) (fc : Option Byte) (now : Time)
    (s : State) : Confined touched s (reject ch res fc now s) where
  vr := fun ch' h => by rw [reject_vr, get_put_of_not_touched hch _ _ _ h]
  door := fun _ => reject_lock ..
  light := fun _ => by simp
  turn := fun _ => by simp
  rest := by simp

/-- R167: an acceptance writes its own validation record and the result on top of the applied command. -/
theorem Confined.accept {ch : Channel} (hch : touched ch) (ctr : Nib) (now : Time) (h : Confined touched s t) :
    Confined touched s (accept ch ctr now t) where
  vr := fun ch' h' => by rw [accept_vr, get_put_of_not_touched hch _ _ _ h', h.vr ch' h']
  door := h.door
  light := h.light
  turn := h.turn
  rest := h.rest

/-- R160: every outcome of a handler: a rejection, or the acceptance of the command its steps applied. -/
theorem handle_cases (ch : Channel) (f : Frame) (now : Time) (steps : Byte → Byte → State → Steps) (s : State) :
    (∃ res fc, handle ch f now steps s = reject ch res fc now s) ∨
    (∃ op arg ctr s', steps op arg s = .applied s' ∧ handle ch f now steps s = accept ch ctr now s') := by
  unfold handle
  split
  next op arg vc ck _ =>
    rcases validate_cases ch op arg vc ck now (steps op arg) s with
      ⟨-, e⟩ | ⟨-, -, -, e⟩ | ⟨-, -, ⟨res, fc, -, e⟩ | ⟨s', hs', e⟩⟩
    · exact .inl ⟨_, _, e⟩
    · exact .inl ⟨_, _, e⟩
    · exact .inl ⟨res, fc, e⟩
    · exact .inr ⟨op, arg, _, s', hs', e⟩
  next => exact .inl ⟨_, _, rfl⟩

/-- A handler is confined to its channel when the commands its steps apply are. -/
theorem confined_handle {ch : Channel} (hch : touched ch) (f : Frame) (now : Time)
    {steps : Byte → Byte → State → Steps}
    (hsteps : ∀ op arg s', steps op arg s = .applied s' → Confined touched s s') :
    Confined touched s (handle ch f now steps s) := by
  rcases handle_cases ch f now steps s with ⟨res, fc, e⟩ | ⟨op, arg, ctr, s', hs', e⟩ <;> rw [e]
  · exact confined_reject hch res fc now s
  · exact (hsteps op arg s' hs').accept hch ctr now

/-- R180: the door commands write the locks only. -/
theorem doorSteps_applied {op arg : Byte} (h : doorSteps op arg s = .applied t) :
    ∃ l, t = { s with lock := l } := by
  unfold doorSteps driveAll driveSelected at h
  split_ifs at h
  · cases h; exact ⟨_, rfl⟩
  · cases h; exact ⟨_, rfl⟩
  · split at h <;> cases h; exact ⟨_, rfl⟩
  · split at h <;> cases h; exact ⟨_, rfl⟩

/-- R200: the lighting commands are those of `applyLighting`. -/
theorem lightSteps_applied {op arg : Byte} (h : lightSteps op arg s = .applied t) :
    ∃ c m, t = applyLighting c m s := by
  unfold lightSteps at h
  split at h
  · cases h
  next c _ =>
    split at h
    · cases h
    next m _ => cases h; exact ⟨c, m, rfl⟩

/-- R230: the turn commands are those of `applyTurn`. -/
theorem turnSteps_applied {now : Time} {op arg : Byte} (h : turnSteps now op arg s = .applied t) :
    ∃ c, t = applyTurn c now s := by
  unfold turnSteps at h
  split at h
  · cases h
  next c _ => cases h; exact ⟨c, rfl⟩

/-- R232, R239: a turn command enters a mode, leaves for `Off`, or changes nothing. -/
theorem applyTurn_cases (c : TurnCmd) (now : Time) (s : State) :
    (∃ m, applyTurn c now s = enterTurn m now s) ∨ applyTurn c now s = enterOff s ∨ applyTurn c now s = s := by
  have enters : ∀ m, ∃ m', enterTurn m now s = enterTurn m' now s := fun m => ⟨m, rfl⟩
  cases c with
  | off => cases hm : s.turnMode <;> simp [applyTurn, applyTurnOff, hm]
  | left => cases hm : s.turnMode <;> simp [applyTurn, applyTurnLeft, hm, enters]
  | right => cases hm : s.turnMode <;> simp [applyTurn, applyTurnRight, hm, enters]
  | hazardOn => cases hm : s.turnMode <;> simp [applyTurn, applyHazardOn, hm, enters]
  | hazardOff => cases hm : s.turnMode <;> simp [applyTurn, applyHazardOff, hm]

theorem confined_door (hch : touched .door) (l : Locks) : Confined touched s { s with lock := l } :=
  { Confined.refl touched s with door := fun h => absurd hch h }

theorem confined_light (hch : touched .light) (c : HeadlightCmd) (m : InteriorCmd) :
    Confined touched s (applyLighting c m s) := by
  cases c <;> cases m <;> exact { Confined.refl touched s with light := fun h => absurd hch h }

theorem confined_turn (hch : touched .turn) (c : TurnCmd) (now : Time) :
    Confined touched s (applyTurn c now s) := by
  rcases applyTurn_cases c now s with ⟨m, e⟩ | e | e <;> rw [e]
  · exact { Confined.refl touched s with turn := fun h => absurd hch h }
  · exact { Confined.refl touched s with turn := fun h => absurd hch h }
  · exact Confined.refl touched s

end

/-- R40, R260: ROUTE is confined to the channel whose identifier the frame carries, if any. -/
theorem confined_routeFrame (f : Frame) (now : Time) (s : State) :
    Confined (fun ch => f.id = ch.ident) s (routeFrame f now s) := by
  unfold routeFrame handleDoor handleLight handleTurn
  split_ifs with hdoor hlight hturn
  · refine confined_handle hdoor f now fun op arg s' h => ?_
    obtain ⟨l, rfl⟩ := doorSteps_applied h
    exact confined_door hdoor l
  · refine confined_handle hlight f now fun op arg s' h => ?_
    obtain ⟨c, m, rfl⟩ := lightSteps_applied h
    exact confined_light hlight c m
  · refine confined_handle hturn f now fun op arg s' h => ?_
    obtain ⟨c, rfl⟩ := turnSteps_applied h
    exact confined_turn hturn c now
  · exact Confined.refl _ s

/-- Settles O27: a ROUTE that completes performs `routeFrame` on the state with the clock set and nothing
emitted, and that is confined to the frame's channel (`confined_routeFrame`). -/
theorem commandsStayOnTheirChannel : Obligations.CommandsStayOnTheirChannel := by
  unfold Obligations.CommandsStayOnTheirChannel
  intro f now s t h
  replace h : execRoute f now s = .next t := h
  unfold execRoute at h
  split at h
  · obtain ⟨-, rfl⟩ := (performAt_eq_next _ _ _ _).1 h
    obtain ⟨hvr, hdoor, hlight, hturn, hrest⟩ := confined_routeFrame f now { s.begun with lastNow := now }
    exact ⟨hvr, hdoor, hlight, hturn, hrest⟩
  · cases h

end Sys2Proof.Machine
end

