-- ==== Sys2Proof/Proofs/Memory.lean ====
section
/-! PROOFS. The port (20_memory.md): a step performs exactly the operation presented first (R62, R66, R67), and
the queries and codec functions read only (R69). -/

namespace Sys2Proof.Machine

/-! ## The presented operation -/

/-- R62, R67: what is taken from a port that is not empty is its first packet. -/
theorem takePresented_of_port {s : State} {p : Packet} {rest : List Packet} (h : s.port = p :: rest) :
    takePresented s = some (p, { s with port := rest }) := by
  rw [takePresented, h]

/-- Settles O3: the configuration is legal, so the step takes the first packet (`takePresented_of_port`), which
decodes, and answers what performing its operation answers. -/
theorem stepRunsThePresentedOperation : Obligations.StepRunsThePresentedOperation := by
  unfold Obligations.StepRunsThePresentedOperation
  intro s p rest i hlegal hport hdecode
  rw [step, if_pos hlegal, takePresented_of_port hport]
  simp only [hdecode]

/-! ## Operations that only return -/

/-- R69: `i` does nothing but return a value computed from the state it starts from. -/
def OnlyReturns (i : Instr) : Prop :=
  ∃ r : State → OpResult, ∀ s, exec i s = perform (fun u => u.returning (r u)) s

/-- R69: an operation that only returns leaves the state but for the result as it was and emits nothing. Performed
again it starts from the same state, since the previous result is discarded first (`State.begun`), and so it
returns the same. -/
theorem OnlyReturns.reads_and_repeats {i : Instr} (hi : OnlyReturns i) {s t : State} (h : exec i s = .next t) :
    t = { s with out := ⟨t.out.result, []⟩ } ∧ exec i t = .next t := by
  obtain ⟨r, hexec⟩ := hi
  rw [hexec, perform_eq_next] at h
  subst h
  have hbegun : (s.begun.returning (r s.begun)).begun = s.begun := rfl
  refine ⟨rfl, ?_⟩
  rw [hexec, perform_eq_next, hbegun]

/-- U1: a CHECKSUM that answers had a byte to fold, and only returns (R121). -/
theorem onlyReturns_checksum {bytes : List Byte} {s t : State} (h : exec (.checksum bytes) s = .next t) :
    OnlyReturns (.checksum bytes) := by
  cases bytes with
  | nil => cases h
  | cons b bs => exact ⟨fun _ => .byte (checksum (b :: bs)), fun _ => rfl⟩

/-- U1: a VALIDATE_CHECKSUM that answers had a byte to fold, and only returns (R122). -/
theorem onlyReturns_validateChecksum {claimed : Byte} {bytes : List Byte} {s t : State}
    (h : exec (.validateChecksum claimed bytes) s = .next t) : OnlyReturns (.validateChecksum claimed bytes) := by
  cases bytes with
  | nil => cases h
  | cons b bs => exact ⟨fun _ => .bit (validateChecksum (b :: bs) claimed), fun _ => rfl⟩

/-- Settles O60: each of the ten operations, where it answers, only returns a value (R121 to R126, R145 to R148),
so it reads the state and may be repeated (`OnlyReturns.reads_and_repeats`). -/
theorem queriesChangeNoState : Obligations.QueriesChangeNoState := by
  unfold Obligations.QueriesChangeNoState
  intro i s t hi h
  suffices honly : OnlyReturns i from honly.reads_and_repeats h
  obtain ⟨code, rfl⟩ | rfl | rfl | rfl | ⟨bytes, rfl⟩ | ⟨claimed, bytes, rfl⟩ | ⟨version, counter, rfl⟩ |
    ⟨byte, rfl⟩ | ⟨byte, rfl⟩ | ⟨received, last, rfl⟩ := hi
  · exact ⟨fun u => .bit (faultActive code u), fun _ => rfl⟩
  · exact ⟨fun u => .int u.records.length, fun _ => rfl⟩
  · exact ⟨fun u => .bytes (flags1 u.flags) (flags2 u.flags), fun _ => rfl⟩
  · exact ⟨fun u => .byte u.mostRecent, fun _ => rfl⟩
  · exact onlyReturns_checksum h
  · exact onlyReturns_validateChecksum h
  · exact ⟨fun _ => .byte (buildVc version counter), fun _ => rfl⟩
  · exact ⟨fun _ => .nib (extractVersion byte), fun _ => rfl⟩
  · exact ⟨fun _ => .nib (extractCounter byte), fun _ => rfl⟩
  · exact ⟨fun _ => .bit (validateCounter received last), fun _ => rfl⟩

end Sys2Proof.Machine
end

