-- ==== Sys2Proof/Proofs/Encoding.lean ====
section
/-! PROOFS. The encoding (30_encoding.md): a frame row means ROUTE of its frame (R95, R260), the decoder inverts
the encoder up to the spelling of a shared lighting word (R100), the row words of the opcode table (R85), and the
OPSEL numbers (R105). -/

namespace Sys2Proof.Machine

/-! ## A frame row means ROUTE of its frame -/

/-- Steps 4 to 6 of R160 on each channel: R180, R200, R230. -/
def channelSteps (now : Time) : Channel → Byte → Byte → State → Steps
  | .door => doorSteps
  | .light => lightSteps
  | .turn => turnSteps now

/-- R81, R260: ROUTE of a command frame validates it on the channel its identifier selects, with that channel's
steps; a row that names these steps for its own operands means the same. -/
theorem command_eq_route (ch : Channel) {op arg : Byte} {ver ctr : Nib} {ck : Byte} {now : Time}
    {steps : State → Steps} (hsteps : channelSteps now ch op arg = steps) (s : State) :
    command ch op arg ver ctr ck now steps s = exec (.route (commandFrame ch.ident op arg ver ctr ck) now) s := by
  subst hsteps
  cases ch <;> rfl

/-- R98, R200: an interior row names its mode, the lighting channel reads it from the interior byte. -/
theorem lightSteps_of_interior (op : Byte) {arg : Byte} {m : InteriorCmd} (h : interiorCmd arg = some m) :
    lightSteps op arg = lightStepsInt op m := by
  funext s
  rw [lightSteps, h]
  rfl

/-- R261: ROUTE ignores a frame whose identifier is none of the three command identifiers. -/
theorem routeFrame_of_other {f : Frame} (hdoor : f.id ≠ idDoorCmd) (hlight : f.id ≠ idLightingCmd)
    (hturn : f.id ≠ idTurnCmd) (now : Time) (s : State) : routeFrame f now s = s := by
  rw [routeFrame, if_neg hdoor, if_neg hlight, if_neg hturn]

/-- R63, R261: a frame that carries a TX identifier is ignored, by its row as by ROUTE (log entry 10). -/
theorem ignoreFrame_eq_route (ch : TxChannel) {data : List Byte} (hlen : data.length ≤ 8) (now : Time) (s : State) :
    ignoreFrame now s = exec (.route ⟨ch.ident, data⟩ now) s := by
  have hwf : Frame.wellFormed ⟨ch.ident, data⟩ = true := decide_eq_true hlen
  have hid : ch.ident ≠ idDoorCmd ∧ ch.ident ≠ idLightingCmd ∧ ch.ident ≠ idTurnCmd := by cases ch <;> decide
  have hroute : routeFrame ⟨ch.ident, data⟩ now = fun u => u :=
    funext (routeFrame_of_other hid.1 hid.2.1 hid.2.2 now)
  change _ = execRoute _ _ _
  rw [execRoute, if_pos hwf, hroute, ignoreFrame]

/-- Settles O29: a command row hands its channel the steps the channel itself reads from the row's operands
(`command_eq_route`), a status row is ignored either way, and a port operation stands for no frame. -/
theorem frameRowMeansRouteOfItsFrame : Obligations.FrameRowMeansRouteOfItsFrame := by
  unfold Obligations.FrameRowMeansRouteOfItsFrame
  intro i f now s h
  cases i with
  | doorLockAll | doorUnlockAll | doorLockSingle | doorUnlockSingle =>
    cases h
    exact command_eq_route .door rfl s
  | lightHlOff | lightHlOn | lightHlAuto | lightHlHighOn | lightHlHighOff =>
    cases h
    exact command_eq_route .light rfl s
  | lightIntOff =>
    cases h
    exact command_eq_route .light (lightSteps_of_interior _ (interiorCmd_off _ _)) s
  | lightIntOn =>
    cases h
    exact command_eq_route .light (lightSteps_of_interior _ (interiorCmd_on _ _)) s
  | lightIntAuto =>
    cases h
    exact command_eq_route .light (lightSteps_of_interior _ (interiorCmd_auto _ _)) s
  | turnOff | turnLeft | turnRight | turnHazardOn | turnHazardOff =>
    cases h
    exact command_eq_route .turn rfl s
  | doorStatus =>
    cases h
    exact ignoreFrame_eq_route .doorStatus (by simp) now s
  | lightingStatus =>
    cases h
    exact ignoreFrame_eq_route .lightingStatus (by simp) now s
  | turnStatus =>
    cases h
    exact ignoreFrame_eq_route .turnStatus (by simp) now s
  | faultStatus =>
    cases h
    exact ignoreFrame_eq_route .faultStatus (by simp) now s
  | heartbeat =>
    cases h
    exact ignoreFrame_eq_route .heartbeat (by simp) now s
  | _ => cases h

/-! ## Decode of encode -/

/-- Every instruction that its own row spells is read back from its encoding. -/
theorem roundTrip : ∀ i : Instr, Laws.RoundTrip.Statement i
  | .doorLockAll .. => Laws.RoundTrip.doorLockAll _ _ _ _ _
  | .doorUnlockAll .. => Laws.RoundTrip.doorUnlockAll _ _ _ _ _
  | .doorLockSingle .. => Laws.RoundTrip.doorLockSingle _ _ _ _ _
  | .doorUnlockSingle .. => Laws.RoundTrip.doorUnlockSingle _ _ _ _ _
  | .lightHlOff .. => Laws.RoundTrip.lightHlOff _ _ _ _ _
  | .lightHlOn .. => Laws.RoundTrip.lightHlOn _ _ _ _ _
  | .lightHlAuto .. => Laws.RoundTrip.lightHlAuto _ _ _ _ _
  | .lightHlHighOn .. => Laws.RoundTrip.lightHlHighOn _ _ _ _ _
  | .lightHlHighOff .. => Laws.RoundTrip.lightHlHighOff _ _ _ _ _
  | .lightIntOff .. => Laws.RoundTrip.lightIntOff _ _ _ _ _ _ _
  | .lightIntOn .. => Laws.RoundTrip.lightIntOn _ _ _ _ _ _ _
  | .lightIntAuto .. => Laws.RoundTrip.lightIntAuto _ _ _ _ _ _ _
  | .turnOff .. => Laws.RoundTrip.turnOff _ _ _ _ _
  | .turnLeft .. => Laws.RoundTrip.turnLeft _ _ _ _ _
  | .turnRight .. => Laws.RoundTrip.turnRight _ _ _ _ _
  | .turnHazardOn .. => Laws.RoundTrip.turnHazardOn _ _ _ _ _
  | .turnHazardOff .. => Laws.RoundTrip.turnHazardOff _ _ _ _ _
  | .doorStatus .. => Laws.RoundTrip.doorStatus _ _ _ _ _ _ _
  | .lightingStatus .. => Laws.RoundTrip.lightingStatus _ _ _ _ _ _ _
  | .turnStatus .. => Laws.RoundTrip.turnStatus _ _ _ _ _ _ _
  | .faultStatus .. => Laws.RoundTrip.faultStatus _ _ _ _ _ _ _ _ _
  | .heartbeat .. => Laws.RoundTrip.heartbeat _ _ _ _ _
  | .route .. => Laws.RoundTrip.route _ _
  | .sched .. => Laws.RoundTrip.sched _
  | .doorTick => Laws.RoundTrip.doorTick
  | .lightTick .. => Laws.RoundTrip.lightTick _
  | .turnTick .. => Laws.RoundTrip.turnTick _
  | .checkTimeout .. => Laws.RoundTrip.checkTimeout _
  | .setAmbient .. => Laws.RoundTrip.setAmbient _ _
  | .setDoorOpen .. => Laws.RoundTrip.setDoorOpen _
  | .renderDoorStatus => Laws.RoundTrip.renderDoorStatus
  | .renderLightStatus => Laws.RoundTrip.renderLightStatus
  | .renderTurnStatus => Laws.RoundTrip.renderTurnStatus
  | .renderFaultStatus => Laws.RoundTrip.renderFaultStatus
  | .renderHeartbeat .. => Laws.RoundTrip.renderHeartbeat _
  | .faultReport .. => Laws.RoundTrip.faultReport _ _
  | .faultClear .. => Laws.RoundTrip.faultClear _
  | .faultClearAll => Laws.RoundTrip.faultClearAll
  | .faultIsActive .. => Laws.RoundTrip.faultIsActive _
  | .faultCount => Laws.RoundTrip.faultCount
  | .faultFlags => Laws.RoundTrip.faultFlags
  | .faultMostRecent => Laws.RoundTrip.faultMostRecent
  | .checksum .. => Laws.RoundTrip.checksum _
  | .validateChecksum .. => Laws.RoundTrip.validateChecksum _ _
  | .buildVc .. => Laws.RoundTrip.buildVc _ _
  | .extractVersion .. => Laws.RoundTrip.extractVersion _
  | .extractCounter .. => Laws.RoundTrip.extractCounter _
  | .validateCounter .. => Laws.RoundTrip.validateCounter _ _

/-- Settles O7, one row of the opcode table at a time (`Laws.RoundTrip`). -/
theorem decodeInvertsEncode : Obligations.DecodeInvertsEncode := by
  unfold Obligations.DecodeInvertsEncode
  exact roundTrip

/-- R89: an interior byte is made of its three fields. -/
theorem interiorByte_bits (b : Byte) :
    interiorByte (interiorBrightnessBits b) (interiorIgnoredBits b) (interiorModeBits b) = b := by
  unfold interiorByte interiorBrightnessBits interiorIgnoredBits interiorModeBits
  rw [append_extractLsb' 4 2 2 b, append_extractLsb' 6 2 0 b, BitVec.extractLsb'_eq_self]

/-- The two mode bits of an interior sub-command (R98). -/
def InteriorCmd.code : InteriorCmd → BitVec 2
  | .off => codeIntOff
  | .on _ => codeIntOn
  | .auto => codeIntAuto

/-- R98: the byte that spells an interior sub-command carries the code of its mode. -/
theorem interiorCmd_eq_some {b : Byte} {m : InteriorCmd} (h : interiorCmd b = some m) :
    interiorModeBits b = m.code := by
  unfold interiorCmd at h
  split_ifs at h with hoff hon hauto <;> cases h
  · exact hoff
  · exact hon
  · exact hauto

/-- The byte of a turn command (R99). -/
def TurnCmd.code : TurnCmd → Byte
  | .off => cmdTurnOff
  | .left => cmdTurnLeft
  | .right => cmdTurnRight
  | .hazardOn => cmdHazardOn
  | .hazardOff => cmdHazardOff

/-- R99: the byte that spells a turn command is the command's code. -/
theorem turnCmd_eq_some {b : Byte} {c : TurnCmd} (h : turnCmd b = some c) : b = c.code := by
  unfold turnCmd at h
  split_ifs at h <;> cases h <;> assumption

/-- `i` stands for the frame `f` brought at `now`: as a row of its own, or as ROUTE of it (R95). -/
def StandsFor (i : Instr) (f : Frame) (now : Time) : Prop := i.frame? = some (f, now) ∨ i = .route f now

/-- What stands for a frame means ROUTE of it (O29). -/
theorem StandsFor.exec_eq {i : Instr} {f : Frame} {now : Time} (h : StandsFor i f now) (s : State) :
    exec i s = exec (.route f now) s := by
  obtain hrow | rfl := h
  · exact frameRowMeansRouteOfItsFrame i f now s hrow
  · rfl

/-- R81, R125: a command frame with the fields of a ver/ctr byte carries that byte. -/
theorem commandFrame_extract (id : Ident) (op arg vc ck : Byte) :
    commandFrame id op arg (extractVersion vc) (extractCounter vc) ck = ⟨id, [op, arg, vc, ck]⟩ := by
  rw [commandFrame, buildVc_extract]

/-- A row whose frame is a command frame with the fields of a ver/ctr byte stands for the frame of that byte. -/
theorem standsFor_of_row {i : Instr} {id : Ident} {op arg vc ck : Byte} {now : Time}
    (h : i.frame? = some (commandFrame id op arg (extractVersion vc) (extractCounter vc) ck, now)) :
    StandsFor i ⟨id, [op, arg, vc, ck]⟩ now :=
  .inl (by rw [h, commandFrame_extract])

section

variable (b0 b1 b2 b3 : Byte) (now : Time)

/-- R96: a door word is spelled by the row of its command byte, if it has one. -/
theorem spell4_door : StandsFor (spell4 idDoorCmd b0 b1 b2 b3 now) ⟨idDoorCmd, [b0, b1, b2, b3]⟩ now := by
  simp only [spell4, if_true]
  split_ifs with hlockAll hunlockAll hlock hunlock
  · exact hlockAll ▸ standsFor_of_row rfl
  · exact hunlockAll ▸ standsFor_of_row rfl
  · exact hlock ▸ standsFor_of_row rfl
  · exact hunlock ▸ standsFor_of_row rfl
  · exact .inr rfl

/-- R98: the interior row a lighting word is spelled by stands for that word. -/
theorem spellInterior_standsFor {m : InteriorCmd} (h : interiorCmd b1 = some m) :
    StandsFor (spell4.spellInterior b0 b1 m (extractVersion b2) (extractCounter b2) b3 now)
      ⟨idLightingCmd, [b0, b1, b2, b3]⟩ now := by
  have hbits := interiorByte_bits b1
  rw [interiorCmd_eq_some h] at hbits
  refine standsFor_of_row ?_
  cases m <;> simp only [InteriorCmd.code] at hbits <;> simp only [spell4.spellInterior, Instr.frame?, hbits]

/-- R97, R98, R100: a lighting word is spelled by its headlight row or its interior row, if it has either. -/
theorem spell4_light : StandsFor (spell4 idLightingCmd b0 b1 b2 b3 now) ⟨idLightingCmd, [b0, b1, b2, b3]⟩ now := by
  have hid : idLightingCmd ≠ idDoorCmd := by decide
  simp only [spell4, if_neg hid, if_true]
  cases hhead : headlightCmd b0 with
  | none =>
    cases hint : interiorCmd b1 with
    | none => exact .inr rfl
    | some m => exact spellInterior_standsFor b0 b1 b2 b3 now hint
  | some c =>
    have hb0 := headlightCmd_eq_some hhead
    cases c with
    | off =>
      cases hint : interiorCmd b1 with
      | none => exact hb0 ▸ standsFor_of_row rfl
      | some m =>
        dsimp only
        split_ifs
        · exact hb0 ▸ standsFor_of_row rfl
        · exact spellInterior_standsFor b0 b1 b2 b3 now hint
    | on | auto | highOn | highOff => exact hb0 ▸ standsFor_of_row rfl

/-- R99: a turn word is spelled by the row of its command byte, if it has one. -/
theorem spell4_turn : StandsFor (spell4 idTurnCmd b0 b1 b2 b3 now) ⟨idTurnCmd, [b0, b1, b2, b3]⟩ now := by
  have hdoor : idTurnCmd ≠ idDoorCmd := by decide
  have hlight : idTurnCmd ≠ idLightingCmd := by decide
  simp only [spell4, if_neg hdoor, if_neg hlight, if_true]
  cases hcmd : turnCmd b0 with
  | none => exact .inr rfl
  | some c =>
    have hb0 := turnCmd_eq_some hcmd
    cases c <;> exact hb0 ▸ standsFor_of_row rfl

/-- R95: a word of four payload bytes is spelled by a row that stands for it, or by ROUTE. -/
theorem spell4_standsFor (id : Ident) : StandsFor (spell4 id b0 b1 b2 b3 now) ⟨id, [b0, b1, b2, b3]⟩ now := by
  by_cases hdoor : id = idDoorCmd
  · exact hdoor ▸ spell4_door b0 b1 b2 b3 now
  by_cases hlight : id = idLightingCmd
  · exact hlight ▸ spell4_light b0 b1 b2 b3 now
  by_cases hturn : id = idTurnCmd
  · exact hturn ▸ spell4_turn b0 b1 b2 b3 now
  simp only [spell4, if_neg hdoor, if_neg hlight, if_neg hturn]
  split_ifs with hbeat
  · exact hbeat ▸ .inl rfl
  · exact .inr rfl

end

/-- R95: what the decoder reads from a frame stands for that frame. -/
theorem spell_standsFor (f : Frame) (now : Time) : StandsFor (spell f now) f now := by
  obtain ⟨id, data⟩ := f
  unfold spell
  split
  next b0 b1 b2 b3 hdata =>
    cases hdata
    exact spell4_standsFor b0 b1 b2 b3 now id
  next hdata =>
    cases hdata
    split_ifs with hdoor hlight hturn
    · exact .inl (by cases hdoor; rfl)
    · exact .inl (by cases hlight; rfl)
    · exact .inl (by cases hturn; rfl)
    · exact .inr rfl
  next hdata =>
    cases hdata
    split_ifs with hfault
    · exact .inl (by cases hfault; rfl)
    · exact .inr rfl
  next => exact .inr rfl

/-- R81 to R84: the frame a row stands for is a Frame value. -/
theorem length_of_frame? {i : Instr} {f : Frame} {now : Time} (h : i.frame? = some (f, now)) :
    f.data.length ≤ 8 := by
  cases i <;> cases h
  all_goals simp [commandFrame]

/-- R105: a port operation has one spelling. -/
theorem spelledByOwnRow_of_frame?_none {i : Instr} (h : i.frame? = none) : i.spelledByOwnRow := by
  cases i with
  | lightHlOff | lightIntOff | lightIntOn | lightIntAuto => cases h
  | _ => trivial

/-- Settles O8: the packet of a frame row reads as what its frame is spelled by, and that means ROUTE of the frame
(`spell_standsFor`), as the row itself does (O29); a port operation reads back as itself (O7). -/
theorem decodeOfEncodeKeepsTheMeaning : Obligations.DecodeOfEncodeKeepsTheMeaning := by
  unfold Obligations.DecodeOfEncodeKeepsTheMeaning
  intro i hwf
  cases hframe : i.frame? with
  | none => exact ⟨i, decodeInvertsEncode i hwf (spelledByOwnRow_of_frame?_none hframe), fun _ => rfl⟩
  | some p =>
    obtain ⟨f, now⟩ := p
    refine ⟨spell f now, decode_encode_frame hframe (length_of_frame? hframe), fun s => ?_⟩
    rw [(spell_standsFor f now).exec_eq, frameRowMeansRouteOfItsFrame i f now s hframe]

/-! ## The row words of the opcode table -/

/-- R85: the row mask of a 4-byte frame word selects its identifier, length and command byte, bits 46 to 24. -/
def rowMask : BitVec 47 := 0x7fffff000000

/-- R85: the bits of a 4-byte frame word that a row fixes: identifier, length 4, command byte. -/
def rowWord (id : Ident) (op : Byte) : BitVec 47 := id ++ 4#4 ++ op ++ 0#24

/-- Where a mask has only ones, the masked word reads as the word. -/
theorem extractLsb'_of_masked {n : Nat} {w m v : BitVec n} {k l : Nat} (h : w &&& m = v)
    (hm : m.extractLsb' k l = BitVec.allOnes l) : w.extractLsb' k l = v.extractLsb' k l := by
  rw [← h, BitVec.extractLsb'_and, hm, BitVec.and_allOnes]

/-- R85: the bytes of a 47-bit word, the least significant first; the highest carries its seven upper bits. -/
theorem leBytes_frameWord (w : BitVec 47) : leBytes 6 w.toNat =
    [w.extractLsb' 0 8, w.extractLsb' 8 8, w.extractLsb' 16 8, w.extractLsb' 24 8, w.extractLsb' 32 8,
     0#1 ++ w.extractLsb' 40 7] := by
  have htop : w.extractLsb' 40 8 = 0#1 ++ w.extractLsb' 40 7 := by
    ext i hi
    grind
  rw [← htop]
  simp only [leBytes, BitVec.extractLsb', Nat.shiftRight_eq_div_pow, Nat.div_div_eq_div_mul,
    Nat.pow_zero, Nat.div_one]

/-- R85: the command byte of a row word. -/
theorem rowWord_op (id : Ident) (op : Byte) : (rowWord id op).extractLsb' 24 8 = op := by
  unfold rowWord
  ext i hi
  grind

/-- R85: the lower byte of a row word's `{id, len}`. -/
theorem rowWord_headLo (id : Ident) (op : Byte) : (rowWord id op).extractLsb' 32 8 = frameHeadLo id 4 := by
  unfold rowWord frameHeadLo
  ext i hi
  grind

/-- R85: the upper bits of a row word's identifier. -/
theorem rowWord_identHi (id : Ident) (op : Byte) : (rowWord id op).extractLsb' 40 7 = id.extractLsb' 4 7 := by
  unfold rowWord
  ext i hi
  grind

/-- R85: a word that a row selects is, with its time, the encoding of the command frame of that row with the
word's own fields. -/
theorem bytes_of_rowWord {w : BitVec 47} {id : Ident} {op : Byte} (h : w &&& rowMask = rowWord id op) (now : Time) :
    leBytes 6 w.toNat ++ timeBytes now =
      encodeFrameBytes (commandFrame id op (w.extractLsb' 16 8) (w.extractLsb' 12 4) (w.extractLsb' 8 4)
        (w.extractLsb' 0 8)) now := by
  have hop : w.extractLsb' 24 8 = op := by
    rw [extractLsb'_of_masked h (by decide), rowWord_op]
  have hlo : w.extractLsb' 32 8 = frameHeadLo id 4 := by
    rw [extractLsb'_of_masked h (by decide), rowWord_headLo]
  have hhi : w.extractLsb' 40 7 = id.extractLsb' 4 7 := by
    rw [extractLsb'_of_masked h (by decide), rowWord_identHi]
  have hvc : w.extractLsb' 8 8 = buildVc (w.extractLsb' 12 4) (w.extractLsb' 8 4) :=
    (append_extractLsb' 4 4 8 w).symm
  rw [leBytes_frameWord, hop, hlo, hhi, hvc]
  rfl

/-- R85, R95: a word that a row selects decodes to the row with the word's own fields, where the row spells them. -/
theorem decode_rowWord {id : Ident} {op : Byte} {w : BitVec 47} {now : Time} {i : Instr}
    (h : w &&& rowMask = rowWord id op)
    (hrow : i.frame? = some (commandFrame id op (w.extractLsb' 16 8) (w.extractLsb' 12 4) (w.extractLsb' 8 4)
      (w.extractLsb' 0 8), now))
    (hwf : i.wellFormed = true) (hown : i.spelledByOwnRow) :
    decode ⟨.frameWord, leBytes 6 w.toNat ++ timeBytes now⟩ = .ok i := by
  rw [← decodeInvertsEncode i hwf hown, encode, hrow, bytes_of_rowWord h now]

/-- Settles O9: each match value is the `rowWord` of the row's identifier and command byte, so the word decodes to
that row with its fields (`decode_rowWord`). -/
theorem commandWordsFollowTheOpcodeTable : Obligations.CommandWordsFollowTheOpcodeTable := by
  unfold Obligations.CommandWordsFollowTheOpcodeTable
  intro w now
  exact ⟨fun h => decode_rowWord (id := idDoorCmd) (op := cmdLockAll) h rfl rfl trivial,
    fun h => decode_rowWord (id := idDoorCmd) (op := cmdUnlockAll) h rfl rfl trivial,
    fun h => decode_rowWord (id := idDoorCmd) (op := cmdLockSingle) h rfl rfl trivial,
    fun h => decode_rowWord (id := idDoorCmd) (op := cmdUnlockSingle) h rfl rfl trivial,
    fun h => decode_rowWord (id := idTurnCmd) (op := cmdTurnOff) h rfl rfl trivial,
    fun h => decode_rowWord (id := idTurnCmd) (op := cmdTurnLeft) h rfl rfl trivial,
    fun h => decode_rowWord (id := idTurnCmd) (op := cmdTurnRight) h rfl rfl trivial,
    fun h => decode_rowWord (id := idTurnCmd) (op := cmdHazardOn) h rfl rfl trivial,
    fun h => decode_rowWord (id := idTurnCmd) (op := cmdHazardOff) h rfl rfl trivial⟩

/-! ## The OPSEL numbers -/

/-- R105, U4: a select of 26 or more names no operation. -/
theorem decodeOperation_unnamed {sel : Byte} (h : 26 ≤ sel.toNat) (rest : List Byte) :
    decodeOperation sel rest = .error .noSuchOperation := by
  unfold decodeOperation
  split
  case h_27 => rfl
  all_goals omega

/-- A packet that does not decode is refused for the reason the decoder gives (U4, U5). -/
theorem step_of_decode_error {s : State} {p : Packet} {rest : List Packet} {e : DecodeError}
    (hlegal : s.cfg.legal = true) (hport : s.port = p :: rest) (hdecode : decode p = .error e) :
    step s = .refused (Refusal.ofDecodeError e) := by
  rw [step, if_pos hlegal, takePresented_of_port hport]
  simp only [hdecode]

/-- Settles O5: the numbers are those the encoder writes; a select that names no operation does not decode
(`decodeOperation_unnamed`), so the step refuses it. -/
theorem operationSelectNumbering : Obligations.OperationSelectNumbering := by
  unfold Obligations.OperationSelectNumbering
  constructor
  case left => intros; rfl
  case right =>
    intro sel rest s hlow _ hlegal
    exact step_of_decode_error (s := presentFirst ⟨.operation, sel :: rest⟩ s) hlegal rfl
      (decodeOperation_unnamed hlow rest)

/-- Settles O6: each word is a closed packet that the decoder evaluates. -/
theorem decodeReadsSampleWords : Obligations.DecodeReadsSampleWords := by
  unfold Obligations.DecodeReadsSampleWords
  refine ⟨?_, ?_, ?_, ?_, ?_, ?_, ?_, ?_⟩ <;> decide

end Sys2Proof.Machine
end

