-- ==== Sys2Proof/Proofs/Codec.lean ====
section
/-! PROOFS. The Frame Codec (40_codec.md): what its six functions compute and return at the port (R121 to R126),
and the rolling counter they serve (R127). -/

namespace Sys2Proof.Machine

/-! ## CHECKSUM -/

/-- R121: what XORing the bytes into the seed gives depends on which bytes they are, not on their order. -/
theorem checksum_perm {bytes other : List Byte} (h : other.Perm bytes) : checksum other = checksum bytes :=
  h.foldl_eq checksumSeed

/-- R121: a byte that joins the sequence is XORed into the checksum. It may join at the end, where the fold
meets it last. -/
theorem checksum_cons (b : Byte) (bytes : List Byte) : checksum (b :: bytes) = checksum bytes ^^^ b := by
  rw [← checksum_perm (List.perm_append_singleton b bytes)]
  exact List.foldl_append ..

/-- R121: zero bytes leave the seed. -/
theorem checksum_of_zeros {bytes : List Byte} (h : ∀ b ∈ bytes, b = 0) : checksum bytes = checksumSeed := by
  induction bytes with
  | nil => rfl
  | cons b bytes ih =>
    obtain ⟨rfl, hbytes⟩ := List.forall_mem_cons.1 h
    rw [checksum_cons, ih hbytes]
    rfl

/-- R122: "changing one byte from `x` to `y != x` changes the fold by `x ^ y != 0`": both sequences are the same
rest with one byte more. -/
theorem checksum_set_ne {bytes : List Byte} {n : Nat} {b : Byte} (hn : n < bytes.length) (hb : bytes[n] ≠ b) :
    checksum bytes ≠ checksum (bytes.set n b) := by
  rw [← checksum_perm (List.getElem_cons_eraseIdx_perm hn), checksum_perm (List.set_perm_cons_eraseIdx hn b),
    checksum_cons, checksum_cons]
  exact fun h => hb ((BitVec.xor_right_inj _).1 h)

/-- R121: CHECKSUM of a sequence that is not empty returns its checksum. -/
theorem exec_checksum {bytes : List Byte} (h : bytes ≠ []) (s : State) :
    exec (.checksum bytes) s = .next (s.answering (.byte (checksum bytes))) := by
  cases bytes with
  | nil => exact absurd rfl h
  | cons => rfl

/-- R122: VALIDATE_CHECKSUM of a sequence that is not empty compares its checksum with the claimed byte. -/
theorem exec_validateChecksum {bytes : List Byte} (h : bytes ≠ []) (k : Byte) (s : State) :
    exec (.validateChecksum k bytes) s = .next (s.answering (.bit (checksum bytes == k))) := by
  cases bytes with
  | nil => exact absurd rfl h
  | cons => rfl

/-- Settles O10: CHECKSUM returns the fold (`exec_checksum`), which takes in a further byte by XOR
(`checksum_cons`), does not see the order (`checksum_perm`) and is the seed on zeros (`checksum_of_zeros`). -/
theorem checksumFoldsFromTheSeed : Obligations.ChecksumFoldsFromTheSeed := by
  unfold Obligations.ChecksumFoldsFromTheSeed
  intro s
  refine ⟨fun _ => rfl, rfl, fun _ => rfl, fun bytes hne =>
    ⟨checksum bytes, exec_checksum hne s, ?cons, ?perm, ?zeros⟩⟩
  case cons =>
    intro b
    rw [exec_checksum (List.cons_ne_nil b bytes), checksum_cons]
  case perm =>
    intro other hperm
    have hother : other ≠ [] := fun h => hne (List.nil_perm.1 (h ▸ hperm))
    rw [exec_checksum hother, checksum_perm hperm]
  case zeros => exact checksum_of_zeros

/-- Settles O11: VALIDATE_CHECKSUM compares the checksum with the claimed byte (`exec_validateChecksum`), and no
change of a single byte keeps the checksum (`checksum_set_ne`). -/
theorem validateChecksumDetectsOneChangedByte : Obligations.ValidateChecksumDetectsOneChangedByte := by
  unfold Obligations.ValidateChecksumDetectsOneChangedByte
  intro s
  refine ⟨fun _ _ => rfl, fun _ => rfl, fun bytes hne =>
    ⟨checksum bytes, exec_checksum hne s, fun k => exec_validateChecksum hne k s, ?same, ?changed⟩⟩
  case same => rw [exec_validateChecksum hne, beq_self_eq_true]
  case changed =>
    intro n b hn hb
    have hset : bytes.set n b ≠ [] := mt (List.set_eq_nil_iff n b).1 hne
    rw [exec_validateChecksum hset, beq_eq_false_iff_ne.2 (checksum_set_ne hn hb).symm]

/-! ## The ver/ctr byte -/

/-- R123: the packed byte as a number. -/
theorem buildVc_eq_ofNat (v c : Nib) : buildVc v c = BitVec.ofNat 8 (v.toNat * 16 + c.toNat) := by
  apply BitVec.eq_of_toNat_eq
  rw [buildVc, BitVec.toNat_append, BitVec.toNat_ofNat, ← Nat.shiftLeft_add_eq_or_of_lt c.isLt, Nat.shiftLeft_eq]
  omega

/-- R124: bits 7:4 as a number. -/
theorem extractVersion_eq_ofNat (b : Byte) : extractVersion b = BitVec.ofNat 4 (b.toNat / 16) := by
  rw [extractVersion, BitVec.extractLsb', Nat.shiftRight_eq_div_pow]

/-- R125: bits 3:0 as a number. -/
theorem extractCounter_eq_ofNat (b : Byte) : extractCounter b = BitVec.ofNat 4 (b.toNat % 16) := by
  apply BitVec.eq_of_toNat_eq
  rw [extractCounter, BitVec.extractLsb'_toNat, BitVec.toNat_ofNat, Nat.shiftRight_zero, Nat.mod_mod]

/-- R123: BUILD_VC returns the packed byte. -/
theorem exec_buildVc (v c : Nib) (s : State) :
    exec (.buildVc v c) s = .next (s.answering (.byte (buildVc v c))) := rfl

/-- R124: EXTRACT_VERSION returns the version. -/
theorem exec_extractVersion (b : Byte) (s : State) :
    exec (.extractVersion b) s = .next (s.answering (.nib (extractVersion b))) := rfl

/-- R125: EXTRACT_COUNTER returns the counter. -/
theorem exec_extractCounter (b : Byte) (s : State) :
    exec (.extractCounter b) s = .next (s.answering (.nib (extractCounter b))) := rfl

/-- Settles O12: the three operations return `buildVc`, `extractVersion` and `extractCounter`, whose values are
those of the `_eq_ofNat` lemmas and which invert each other (`extractVersion_buildVc`, `extractCounter_buildVc`,
`buildVc_extract`). -/
theorem versionCounterBytePacksAndUnpacks : Obligations.VersionCounterBytePacksAndUnpacks := by
  unfold Obligations.VersionCounterBytePacksAndUnpacks
  intro s
  simp only [exec_buildVc, exec_extractVersion, exec_extractCounter]
  refine ⟨fun _ _ _ => ⟨rfl, rfl, rfl⟩, fun v c => by rw [buildVc_eq_ofNat],
    fun b => by rw [extractVersion_eq_ofNat], fun b => by rw [extractCounter_eq_ofNat],
    ?extract_build, ?build_extract⟩
  case extract_build =>
    rintro v c t b ⟨⟩ ⟨⟩
    rw [extractVersion_buildVc, extractCounter_buildVc]
    exact ⟨rfl, rfl⟩
  case build_extract => exact fun b => ⟨extractVersion b, extractCounter b, rfl, rfl, by rw [buildVc_extract]⟩

/-! ## VALIDATE_COUNTER -/

/-- R126: the received counter is valid exactly when it is the next one. -/
theorem validateCounter_eq_true_iff (received last : Nib) :
    validateCounter received last = true ↔ received = last + 1 := beq_iff_eq

/-- R126: the addition of nibbles wraps at 16. -/
theorem nib_eq_succ_iff (received last : Nib) :
    received = last + 1 ↔ received.toNat = (last.toNat + 1) % 16 := by
  rw [← BitVec.toNat_inj, BitVec.toNat_add]
  rfl

/-- R126: VALIDATE_COUNTER returns whether the received counter is valid. -/
theorem exec_validateCounter (received last : Nib) (s : State) :
    exec (.validateCounter received last) s = .next (s.answering (.bit (validateCounter received last))) := rfl

/-- An operation that only answers shows its answer. -/
theorem next_answering_inj (s : State) (r r' : OpResult) :
    (Host.Outcome.next (s.answering r) : Host.Outcome State Fault Refusal) = .next (s.answering r') ↔ r = r' := by
  refine ⟨fun h => ?_, fun h => h ▸ rfl⟩
  injection h with h
  exact congrArg (fun t : State => t.out.result) h

/-- Settles O13: VALIDATE_COUNTER answers whether the received counter is `last + 1`
(`validateCounter_eq_true_iff`), which is the number of R126 (`nib_eq_succ_iff`). -/
theorem validateCounterAcceptsExactlyTheNext : Obligations.ValidateCounterAcceptsExactlyTheNext := by
  unfold Obligations.ValidateCounterAcceptsExactlyTheNext
  intro s last
  refine ⟨fun _ => rfl, fun received => ?answer, last + 1, fun r => ?unique⟩
  case answer =>
    have hvalid : validateCounter received last = decide (received.toNat = (last.toNat + 1) % 16) := by
      rw [Bool.eq_iff_iff, validateCounter_eq_true_iff, nib_eq_succ_iff, decide_eq_true_iff]
    rw [exec_validateCounter, hvalid]
  case unique => rw [exec_validateCounter, next_answering_inj, OpResult.bit.injEq, validateCounter_eq_true_iff]

/-! ## The rolling counter -/

/-- R127, R25: from `s` to `t` the channel `ch` keeps its counter, or it has accepted a command that carries the
next one (any, where it had none). -/
def KeepsOrTakesNext (ch : Channel) (s t : State) : Prop :=
  ((t.vr.get ch).seeded = (s.vr.get ch).seeded ∧ (t.vr.get ch).lastCounter = (s.vr.get ch).lastCounter ∧
    (t.vr.get ch).lastCmdTime = (s.vr.get ch).lastCmdTime) ∨
  ((t.vr.get ch).seeded = true ∧ (t.vr.get ch).lastResult = 0 ∧ t.out.result = .code 0 ∧
    (t.vr.get ch).lastCmdTime = t.lastNow ∧
    ((s.vr.get ch).seeded = true →
      (t.vr.get ch).lastCounter.toNat = ((s.vr.get ch).lastCounter.toNat + 1) % 16))

section
variable {ch : Channel} {s t : State} {now : Time}

theorem keepsOrTakesNext_of_get_eq (h : t.vr.get ch = s.vr.get ch) : KeepsOrTakesNext ch s t := by
  refine .inl ?_
  rw [h]
  exact ⟨rfl, rfl, rfl⟩

/-- R166: a rejection writes no more of a validation record than its result. -/
theorem keepsOrTakesNext_reject (ch' : Channel) (res : Byte) (fc : Option Byte) :
    KeepsOrTakesNext ch s (reject ch' res fc now s) := by
  by_cases hch : ch = ch'
  · subst hch
    refine .inl ?_
    rw [reject_vr, ValRecs.get_put_same]
    exact ⟨rfl, rfl, rfl⟩
  · exact keepsOrTakesNext_of_get_eq (by rw [reject_vr, ValRecs.get_put_ne _ _ hch])

/-- R164, R167: an acceptance of a command that passed the counter check takes the next counter on its channel,
and no other channel's. -/
theorem keepsOrTakesNext_accept {ch' : Channel} {ctr : Nib} (hvr : t.vr = s.vr) (hnow : t.lastNow = now)
    (hctr : (s.vr.get ch').seeded = true → validateCounter ctr (s.vr.get ch').lastCounter = true) :
    KeepsOrTakesNext ch s (accept ch' ctr now t) := by
  by_cases hch : ch = ch'
  · subst hch
    refine .inr ?_
    rw [accept_vr, ValRecs.get_put_same, accept_lastNow, hnow]
    exact ⟨rfl, rfl, rfl, rfl, fun hs => (nib_eq_succ_iff _ _).1 ((validateCounter_eq_true_iff _ _).1 (hctr hs))⟩
  · exact keepsOrTakesNext_of_get_eq (by rw [accept_vr, ValRecs.get_put_ne _ _ hch, hvr])

/-- R165: the commands themselves write no validation record and not the clock; that is left to the accept
bookkeeping. -/
theorem channelSteps_applied {op arg : Byte} (h : channelSteps now ch op arg s = .applied t) :
    t.vr = s.vr ∧ t.lastNow = s.lastNow := by
  cases ch with
  | door =>
    obtain ⟨l, rfl⟩ := doorSteps_applied h
    exact ⟨rfl, rfl⟩
  | light =>
    obtain ⟨c, m, rfl⟩ := lightSteps_applied h
    exact applyLighting_vr c m s
  | turn =>
    obtain ⟨c, rfl⟩ := turnSteps_applied (arg := arg) h
    rcases applyTurn_cases c now s with ⟨m, e⟩ | e | e <;> rw [e] <;> exact ⟨rfl, rfl⟩

/-- R160: whatever a handler makes of a frame, it takes no counter but the next. -/
theorem keepsOrTakesNext_handle (ch' : Channel) (f : Frame) (hnow : s.lastNow = now) :
    KeepsOrTakesNext ch s (handle ch' f now (channelSteps now ch') s) := by
  unfold handle
  split
  next op arg vc ck _ =>
    rcases validate_cases ch' op arg vc ck now (channelSteps now ch' op arg) s with
      ⟨-, e⟩ | ⟨-, -, -, e⟩ | ⟨-, hctr, ⟨res, fc, -, e⟩ | ⟨s', hs', e⟩⟩ <;> rw [e]
    · exact keepsOrTakesNext_reject ..
    · exact keepsOrTakesNext_reject ..
    · exact keepsOrTakesNext_reject ..
    · obtain ⟨hvr, hlast⟩ := channelSteps_applied hs'
      exact keepsOrTakesNext_accept hvr (hlast.trans hnow) hctr
  next => exact keepsOrTakesNext_reject ..

/-- R260: ROUTE hands a frame to the channel its identifier selects, or ignores it. -/
theorem routeFrame_cases (f : Frame) (now : Time) (s : State) :
    (∃ ch, routeFrame f now s = handle ch f now (channelSteps now ch) s) ∨ routeFrame f now s = s := by
  unfold routeFrame
  split_ifs
  · exact .inl ⟨.door, rfl⟩
  · exact .inl ⟨.light, rfl⟩
  · exact .inl ⟨.turn, rfl⟩
  · exact .inr rfl

/-- R127, R260: a ROUTE that completes takes no counter but the next. -/
theorem keepsOrTakesNext_route {f : Frame} (h : exec (.route f now) s = .next t) : KeepsOrTakesNext ch s t := by
  replace h : execRoute f now s = .next t := h
  unfold execRoute at h
  split at h
  · obtain ⟨-, rfl⟩ := (performAt_eq_next _ _ _ _).1 h
    rcases routeFrame_cases f now { s.begun with lastNow := now } with ⟨ch', e⟩ | e <;> rw [e]
    · exact keepsOrTakesNext_handle (s := { s.begun with lastNow := now }) ch' f rfl
    · exact keepsOrTakesNext_of_get_eq rfl
  · cases h

end

/-! ## The operations that bring no command -/

@[simp] theorem lightTick_vr (now : Time) (s : State) : (lightTick now s).vr = s.vr := by
  unfold lightTick
  split
  · exact reportFault_vr ..
  · rfl

@[simp] theorem turnTick_vr (now : Time) (s : State) : (turnTick now s).vr = s.vr := by
  unfold turnTick
  split <;> rfl

@[simp] theorem checkTimeout_vr (now : Time) (s : State) : (checkTimeout now s).vr = s.vr := by
  unfold checkTimeout
  split
  · exact reportFault_vr ..
  · rfl

@[simp] theorem fastTrigger_vr (now : Time) (s : State) : (fastTrigger now s).vr = s.vr := by
  unfold fastTrigger
  split
  · rw [turnTick_vr, lightTick_vr, doorTick_vr]
  · rfl

@[simp] theorem statusTrigger_vr (now : Time) (s : State) : (statusTrigger now s).vr = s.vr := by
  unfold statusTrigger
  split <;> rfl

@[simp] theorem slowTrigger_vr (now : Time) (s : State) : (slowTrigger now s).vr = s.vr := by
  unfold slowTrigger
  split
  · exact checkTimeout_vr ..
  · rfl

/-- R264: none of the operations a SCHED invokes writes a validation record. -/
@[simp] theorem sched_vr (now : Time) (s : State) : (sched now s).vr = s.vr := by
  rw [sched, slowTrigger_vr, statusTrigger_vr, fastTrigger_vr]

theorem perform_vr {f : State → State} {s t : State} (h : perform f s = .next t) (hf : ∀ u, (f u).vr = u.vr) :
    t.vr = s.vr := by
  obtain rfl := (perform_eq_next _ _ _).1 h
  exact hf _

theorem performAt_vr {now : Time} {f : State → State} {s t : State} (h : performAt now f s = .next t)
    (hf : ∀ u, (f u).vr = u.vr) : t.vr = s.vr := by
  obtain ⟨-, rfl⟩ := (performAt_eq_next _ _ _ _).1 h
  exact hf _

/-- R40: an operation that brings no frame writes no validation record. -/
theorem exec_vr_of_no_frame {i : Instr} {s t : State} (hrow : i.frame? = none)
    (hroute : ∀ f now, i ≠ .route f now)
    (h : exec i s = .next t) : t.vr = s.vr := by
  cases i with
  | route f now => exact absurd rfl (hroute f now)
  | sched now => exact performAt_vr h (sched_vr now)
  | lightTick now => exact performAt_vr h (lightTick_vr now)
  | turnTick now => exact performAt_vr h (turnTick_vr now)
  | checkTimeout now => exact performAt_vr h (checkTimeout_vr now)
  | setAmbient | renderHeartbeat => exact performAt_vr h (fun _ => rfl)
  | faultReport code now =>
    replace h : execFaultReport code now s = .next t := h
    unfold execFaultReport at h
    split at h
    · cases h
    · exact performAt_vr h (reportFault_vr code now)
  | faultClear code => exact perform_vr h (clearFault_vr code)
  | doorTick | setDoorOpen | renderDoorStatus | renderLightStatus | renderTurnStatus | renderFaultStatus |
    faultClearAll | faultIsActive | faultCount | faultFlags | faultMostRecent | buildVc | extractVersion |
    extractCounter | validateCounter =>
    cases h
    rfl
  | checksum bytes =>
    obtain ⟨r, hr⟩ := onlyReturns_checksum h
    exact perform_vr ((hr s).symm.trans h) fun _ => rfl
  | validateChecksum claimed bytes =>
    obtain ⟨r, hr⟩ := onlyReturns_validateChecksum h
    exact perform_vr ((hr s).symm.trans h) fun _ => rfl
  | _ => cases hrow

/-- Settles O30: an operation that stands for a frame means ROUTE of it (`StandsFor.exec_eq`), which takes no
counter but the next (`keepsOrTakesNext_route`); any other writes no validation record (`exec_vr_of_no_frame`). -/
theorem rollingCounterAdvancesByOne : Obligations.RollingCounterAdvancesByOne := by
  unfold Obligations.RollingCounterAdvancesByOne
  intro i s t ch h
  by_cases hframe : ∃ f now, StandsFor i f now
  · obtain ⟨f, now, hf⟩ := hframe
    exact keepsOrTakesNext_route ((hf.exec_eq s).symm.trans h)
  · have hrow : i.frame? = none :=
      Option.eq_none_iff_forall_ne_some.2 fun (f, now) hf => hframe ⟨f, now, .inl hf⟩
    have hroute : ∀ f now, i ≠ .route f now := fun f now hf => hframe ⟨f, now, .inr hf⟩
    exact keepsOrTakesNext_of_get_eq (by rw [exec_vr_of_no_frame hrow hroute h])

end Sys2Proof.Machine
end

