-- ==== Sys2Proof/Proofs/FaultTracker.lean ====
section
/-! PROOFS. The Fault Tracker (41_fault_tracker.md): what its operations store, remove and return (R141 to R147),
which codes the core itself reports (R142), and how the capacity bounds the log (R141). -/

namespace Sys2Proof.Machine

/-! ## FAULT_REPORT -/

/-- R141: FAULT_REPORT of a code other than 0 at a time not below the last one. -/
theorem exec_faultReport {code : Byte} {now : Time} {s : State} (hc : code ≠ 0) (hl : s.lastNow ≤ now) :
    exec (.faultReport code now) s = .next (reportFault code now (s.atTime now)) :=
  (if_neg hc).trans (performAt_of_le hl _)

/-- Settles O14: by the outcomes of a report (`reportFault_cases`): the code's record is bumped, or inserted, or
nothing is written; what the new list holds is `findRecord_bump` and `findRecord_insert`. -/
theorem faultReportStoresOrDrops : Obligations.FaultReportStoresOrDrops := by
  unfold Obligations.FaultReportStoresOrDrops
  intro s code now
  refine ⟨rfl, rfl, fun hc hl => ⟨_, exec_faultReport hc hl, ?_⟩⟩
  rcases reportFault_cases code now (s.atTime now) with
    ⟨(hfound : (findRecord code s.records).isSome = true), e⟩ |
    ⟨(habsent : findRecord code s.records = none), (hroom : s.records.length < s.cfg.faultCapacity), e⟩ |
    ⟨(habsent : findRecord code s.records = none), (hfull : s.cfg.faultCapacity ≤ s.records.length), e⟩ <;> rw [e]
  case inl =>
    obtain ⟨r, hr⟩ := Option.isSome_iff_exists.1 hfound
    simp only [hr]
    have hfind := fun c => findRecord_bump code c now s.records
    exact ⟨rfl, (hfind code).trans (by rw [if_pos rfl, hr, Option.map_some]), length_bump ..,
      fun c hne => (hfind c).trans (if_neg hne), getLsbD_setFlag _ _⟩
  case inr.inl =>
    simp only [habsent]
    rw [if_pos hroom]
    have hfind := fun c => findRecord_insert ⟨code, now, now, 1⟩ c s.records habsent
    exact ⟨rfl, (hfind code).trans (if_pos rfl), length_insert .., fun c hne => (hfind c).trans (if_neg hne),
      getLsbD_setFlag _ _⟩
  case inr.inr =>
    simp only [habsent, Nat.not_lt.2 hfull, if_false]

/-! ## FAULT_CLEAR -/

theorem removeRecord_of_absent {c : Byte} {rs : List FaultRecord} (h : findRecord c rs = none) :
    removeRecord c rs = rs := by
  have hcode : ∀ r ∈ rs, r.code ≠ c := by
    simpa [h] using (findRecord_isSome_iff c rs).not
  rw [removeRecord_eq_filter]
  exact List.filter_eq_self.2 fun r hr => bne_iff_ne.2 (hcode r hr)

/-- Log entry 9: in a rising list no code stands twice, so a clear removes one record. -/
theorem length_remove_of_rising {c : Byte} {rs : List FaultRecord} (hrising : recordsRising rs)
    (hfound : (findRecord c rs).isSome = true) : (removeRecord c rs).length + 1 = rs.length := by
  induction rs with
  | nil => cases hfound
  | cons r rs ih =>
    obtain ⟨hfirst, hrest⟩ := List.pairwise_cons.1 hrising
    by_cases hc : r.code = c
    · have habsent : findRecord c rs = none := by
        rw [← Option.not_isSome_iff_eq_none, findRecord_isSome_iff]
        rintro ⟨r', hr', rfl⟩
        exact BitVec.lt_irrefl _ (hc ▸ hfirst r' hr')
      rw [removeRecord, if_pos hc, removeRecord_of_absent habsent, List.length_cons]
    · rw [findRecord, if_neg hc] at hfound
      rw [removeRecord, if_neg hc, List.length_cons, List.length_cons, ih hrest hfound]

/-- Settles O15: by the outcomes of a clear (`clearFault_cases`); what is left is `findRecord_remove`, and one
record fewer (`length_remove_of_rising`). -/
theorem faultClearRemovesOneCode : Obligations.FaultClearRemovesOneCode := by
  unfold Obligations.FaultClearRemovesOneCode
  intro s code
  refine ⟨rfl, clearFault code (s.answering .none), rfl, ?_⟩
  rcases clearFault_cases code (s.answering .none) with
    ⟨(hfound : (findRecord code s.records).isSome = true), e⟩ |
    ⟨(habsent : findRecord code s.records = none), e⟩ <;> rw [e]
  case inl =>
    rw [if_pos hfound]
    exact ⟨rfl, fun c => findRecord_remove code c s.records,
      fun hrising => ⟨length_remove_of_rising hrising hfound, recordsRising_remove code hrising⟩,
      getLsbD_clearFlag _ _⟩
  case inr => rw [if_neg (Option.not_isSome_iff_eq_none.2 habsent)]

/-! ## Active codes -/

/-- R141: a report makes its code active where capacity remains, and no other code; it makes none inactive. -/
theorem faultActive_reportFault_iff (c c' : Byte) (now : Time) (s : State) :
    faultActive c' (reportFault c now s) = true ↔
      faultActive c' s = true ∨ (c' = c ∧ s.records.length < s.cfg.faultCapacity) := by
  rcases reportFault_cases c now s with ⟨hfound, e⟩ | ⟨habsent, hroom, e⟩ | ⟨-, hfull, e⟩ <;> rw [e]
  case inl =>
    rw [faultActive, noteReport_records, isSome_findRecord_bump, ← faultActive]
    exact ⟨.inl, fun h => h.elim id fun ⟨heq, _⟩ => heq ▸ hfound⟩
  case inr.inl =>
    rw [faultActive, noteReport_records, findRecord_insert ⟨c, now, now, 1⟩ c' s.records habsent, faultActive]
    by_cases hcc : c' = c <;> simp [hcc, hroom]
  case inr.inr => simp [Nat.not_lt.2 hfull]

/-- R143: a clear makes no code active. -/
theorem faultActive_of_clearFault {c c' : Byte} {s : State} (h : faultActive c' (clearFault c s) = true) :
    faultActive c' s = true := by
  rcases clearFault_cases c s with ⟨-, e⟩ | ⟨-, e⟩ <;> rw [e] at h
  case inl =>
    rw [faultActive, findRecord_remove] at h
    split at h
    · cases h
    · exact h
  case inr => exact h

/-- R142: the codes active in `t` were active in `s` or are among the five of R291. -/
def AddsOnlyCoreCodes (s t : State) : Prop :=
  ∀ c, faultActive c t = true → faultActive c s = true ∨ (1 ≤ c.toNat ∧ c.toNat ≤ 5)

/-- R142, R291: an update that reports, reports one of the five codes; a clear removes records, and no other
update writes them. -/
theorem keeps_addsOnlyCoreCodes (s : State) : Keeps (AddsOnlyCoreCodes s) where
  returning := fun _ _ h => h
  send := fun _ _ _ _ h => h
  report := fun _ _ h1 h5 h c' hact =>
    ((faultActive_reportFault_iff _ c' _ _).1 hact).elim (h c') fun ⟨heq, _⟩ => .inr (heq ▸ ⟨h1, h5⟩)
  result := fun _ _ _ _ h => h
  accept := fun _ _ _ h _ => h
  lock := fun _ _ h => h
  lighting := fun _ c m h => by cases c <;> cases m <;> exact h
  recompute := fun _ h => h
  ambient := fun _ _ h => h
  enter := fun _ _ _ _ h => h
  leave := fun _ _ h => h
  flip := fun _ _ h => h
  fast := fun _ h => h
  status := fun _ h => h
  slow := fun _ h => h
  clear := fun _ _ h c' hact => h c' (faultActive_of_clearFault hact)
  clearAll := fun _ _ _ hact => nomatch hact
  doorOpen := fun _ _ h => h

/-- Settles O19: an operation other than FAULT_REPORT is made of updates that add no code but the five
(`keeps_addsOnlyCoreCodes`), and starts from the records of `s`. -/
theorem coreReportsOnlyFiveCodes : Obligations.CoreReportsOnlyFiveCodes := by
  unfold Obligations.CoreReportsOnlyFiveCodes
  intro i s t c h hne
  exact (keeps_addsOnlyCoreCodes s).exec (fun code now hi => absurd hi (hne code now)) (fun _ _ hu => hu)
    (fun _ _ _ => .inl) h c

/-! ## The capacity -/

/-- R141: a report of an absent code adds one record, up to the capacity. -/
theorem length_reportFault_of_absent {c : Byte} {s : State} (now : Time) (habsent : findRecord c s.records = none)
    (hcap : s.records.length ≤ s.cfg.faultCapacity) :
    (reportFault c now s).records.length = min (s.records.length + 1) s.cfg.faultCapacity := by
  rcases reportFault_cases c now s with ⟨hfound, -⟩ | ⟨-, hroom, e⟩ | ⟨-, hfull, e⟩
  · rw [habsent] at hfound
    cases hfound
  · rw [e, noteReport_records, length_insert]
    omega
  · rw [e]
    omega

/-- R141: what FAULT_REPORT of an absent code does to the codes and their number. -/
theorem exec_faultReport_of_absent {c : Byte} {s : State} (hc : c ≠ 0) (habsent : ¬ faultActive c s = true)
    (hcap : s.records.length ≤ s.cfg.faultCapacity) :
    ∃ t, exec (.faultReport c s.lastNow) s = .next t ∧ t.lastNow = s.lastNow ∧ t.cfg = s.cfg ∧
      t.records.length = min (s.records.length + 1) s.cfg.faultCapacity ∧
      ∀ c', faultActive c' t = true ↔
        faultActive c' s = true ∨ (c' = c ∧ s.records.length < s.cfg.faultCapacity) :=
  ⟨_, exec_faultReport hc (BitVec.le_refl _), reportFault_lastNow .., reportFault_cfg ..,
    length_reportFault_of_absent _ (Option.not_isSome_iff_eq_none.1 habsent) hcap,
    fun c' => faultActive_reportFault_iff c c' _ _⟩

/-- R67: a sequence whose first operation answers is performed when the rest is. -/
theorem performAll_cons {i : Instr} {is : List Instr} {s t u : State} {fs : List Frame} (hi : exec i s = .next t)
    (his : performAll is t = some (u, fs)) : performAll (i :: is) s = some (u, t.out.frames ++ fs) := by
  simp only [performAll, hi, his]

/-- R141: reports of distinct absent codes fill what is left of the capacity, in the order they are made. -/
theorem performAll_faultReport (codes : List Byte) (s : State) (hcap : s.records.length ≤ s.cfg.faultCapacity)
    (hnodup : codes.Nodup) (hzero : ∀ c ∈ codes, c ≠ 0) (habsent : ∀ c ∈ codes, ¬ faultActive c s = true) :
    ∃ u fs, performAll (codes.map fun c => Instr.faultReport c s.lastNow) s = some (u, fs) ∧
      u.records.length = min (s.records.length + codes.length) s.cfg.faultCapacity ∧
      ∀ c, faultActive c u = true ↔
        faultActive c s = true ∨ c ∈ codes.take (s.cfg.faultCapacity - s.records.length) := by
  induction codes generalizing s with
  | nil => exact ⟨s, [], rfl, (min_eq_left hcap).symm, fun c => by simp⟩
  | cons c codes ih =>
    obtain ⟨hc, hnodup⟩ := List.nodup_cons.1 hnodup
    obtain ⟨hc0, hzero⟩ := List.forall_mem_cons.1 hzero
    obtain ⟨hcabsent, habsent⟩ := List.forall_mem_cons.1 habsent
    obtain ⟨t, hexec, hnow, hcfg, hlen, hactive⟩ := exec_faultReport_of_absent hc0 hcabsent hcap
    have htcap : t.records.length ≤ t.cfg.faultCapacity := by
      rw [hlen, hcfg]
      exact min_le_right _ _
    have htabsent : ∀ c' ∈ codes, ¬ faultActive c' t = true := fun c' hc' h =>
      ((hactive c').1 h).elim (habsent c' hc') fun ⟨heq, _⟩ => hc (heq ▸ hc')
    obtain ⟨u, fs, hrun, hulen, huactive⟩ := ih t htcap hnodup hzero htabsent
    rw [hnow] at hrun
    refine ⟨u, _, performAll_cons hexec hrun, ?_, fun c' => ?_⟩
    · rw [hulen, hlen, hcfg, List.length_cons]
      omega
    · rw [huactive, hactive, hlen, hcfg]
      by_cases hroom : s.records.length < s.cfg.faultCapacity
      · have hleft : s.cfg.faultCapacity - s.records.length =
            s.cfg.faultCapacity - min (s.records.length + 1) s.cfg.faultCapacity + 1 := by omega
        rw [hleft, List.take_succ_cons, List.mem_cons, or_assoc, and_iff_left hroom]
      · have hfull : s.cfg.faultCapacity - s.records.length = 0 ∧
            s.cfg.faultCapacity - min (s.records.length + 1) s.cfg.faultCapacity = 0 := by omega
        simp [hfull, hroom]

/-- Settles O18: from an empty tracker the whole capacity is left to fill (`performAll_faultReport`). -/
theorem faultCapacityBoundsTheLog : Obligations.FaultCapacityBoundsTheLog := by
  unfold Obligations.FaultCapacityBoundsTheLog
  intro s codes hempty hnodup hzero
  have hinactive : ∀ c, ¬ faultActive c s = true := by simp [faultActive, hempty, findRecord]
  obtain ⟨u, fs, hrun, hlen, hactive⟩ :=
    performAll_faultReport codes s (by simp [hempty]) hnodup hzero fun c _ => hinactive c
  refine ⟨u, fs, hrun, ?_, fun c => ?_⟩
  · rw [hlen, hempty, List.length_nil, Nat.zero_add]
  · rw [hactive, or_iff_right (hinactive c), hempty, List.length_nil, Nat.sub_zero]

/-! ## FAULT_CLEAR_ALL and the queries -/

/-- R145: a code is active when some record carries it. -/
theorem faultActive_eq_any (c : Byte) (s : State) : faultActive c s = s.records.any (fun r => r.code == c) := by
  rw [Bool.eq_iff_iff, faultActive, findRecord_isSome_iff, List.any_eq_true]
  simp only [beq_iff_eq]

/-- R145: FAULT_IS_ACTIVE returns whether the code is active. -/
theorem exec_faultIsActive (c : Byte) (s : State) :
    exec (.faultIsActive c) s = .next (s.answering (.bit (faultActive c s))) := rfl

/-- R33, R147: FAULT_FLAGS returns the flag word in two bytes. -/
theorem exec_faultFlags (s : State) :
    exec .faultFlags s = .next (s.answering (.bytes (flags1 s.flags) (flags2 s.flags))) := rfl

theorem getLsbD_flags1 (w : BitVec 16) {k : Nat} (hk : k < 8) : (flags1 w).getLsbD k = w.getLsbD k := by
  simp [flags1, hk]

theorem getLsbD_flags2 (w : BitVec 16) {k : Nat} (hk : k < 8) : (flags2 w).getLsbD k = w.getLsbD (k + 8) := by
  simp [flags2, hk, Nat.add_comm]

/-- Settles O16: each operation answers what its definition says; a code is active when a record carries it
(`faultActive_eq_any`), which R35 (d) denies of code 0 (`codes_ne_zero_iff`). -/
theorem faultClearAllAndQueries : Obligations.FaultClearAllAndQueries := by
  unfold Obligations.FaultClearAllAndQueries
  intro s
  refine ⟨fun _ => rfl, rfl, fun code => ?active, fun hinv => ?zero, rfl,
    ⟨_, _, exec_faultFlags s, fun k hk => ⟨getLsbD_flags1 _ hk, getLsbD_flags2 _ hk⟩⟩, rfl⟩
  case active => rw [exec_faultIsActive, faultActive_eq_any]
  case zero =>
    obtain ⟨hcap, -, -, hcodes, -⟩ := hinv
    exact ⟨by rw [exec_faultIsActive, (codes_ne_zero_iff s).1 hcodes], hcap⟩

end Sys2Proof.Machine
end

section
/-! PROOFS. Command validation (42_command_validation.md): which check of R160 answers a command frame and with
what (R161 to R164), what an accepted command writes (R167), and what a rejected one leaves alone (R168). -/

namespace Sys2Proof.Machine

/-! ## The checks of R162 and R164 -/

/-- R162: the checksum covers the first three bytes. -/
theorem validateChecksum_eq_true_iff (op arg vc ck : Byte) :
    validateChecksum [op, arg, vc] ck = true ↔ ck = 0xAA ^^^ op ^^^ arg ^^^ vc := by
  rw [eq_comm (a := ck)]
  exact beq_iff_eq

/-- R164: an unexpected counter as a number. -/
theorem validateCounter_eq_false_iff (received last : Nib) :
    validateCounter received last = false ↔ received.toNat ≠ (last.toNat + 1) % 16 := by
  rw [Bool.eq_false_iff, ne_eq, validateCounter_eq_true_iff, nib_eq_succ_iff]

/-! ## The channels' own steps -/

/-- R182: a single-door command rejects with InvalidCommand only. -/
theorem driveSelected_rejected {drive : LockState → LockState} {doorId res : Byte} {fc : Option Byte} {s : State}
    (h : driveSelected drive doorId s = .rejected res fc) : res = resInvalidCommand := by
  unfold driveSelected at h
  split at h <;> cases h
  rfl

/-- R165, R181, R182, R201, R202, R231: the channels' own steps reject with InvalidCommand only. -/
theorem channelSteps_rejected {s : State} {ch : Channel} {now : Time} {op arg res : Byte} {fc : Option Byte}
    (h : channelSteps now ch op arg s = .rejected res fc) : res = resInvalidCommand := by
  cases ch with
  | door =>
    change doorSteps op arg s = _ at h
    unfold doorSteps driveAll at h
    split_ifs at h
    · exact driveSelected_rejected h
    · exact driveSelected_rejected h
    · cases h
      rfl
  | light =>
    change lightSteps op arg s = _ at h
    unfold lightSteps at h
    split at h
    · cases h
      rfl
    · split at h <;> cases h
      rfl
  | turn =>
    change turnSteps now op arg s = _ at h
    unfold turnSteps at h
    split at h <;> cases h
    rfl

/-- The five bytes the tables of R96, R97 and R99 draw their codes from. -/
theorem byte_le_four {b : Byte} (h : b.toNat ≤ 4) : b = 0 ∨ b = 1 ∨ b = 2 ∨ b = 3 ∨ b = 4 := by
  bv_omega

/-- R88, R182: a door-select byte of 0 to 3 names a door, which is driven. -/
theorem driveSelected_of_le {doorId : Byte} (h : doorId.toNat ≤ 3) (drive : LockState → LockState) (s : State) :
    ∃ t, driveSelected drive doorId s = .applied t := by
  rw [driveSelected, doorSelect, if_pos (BitVec.lt_def.2 (Nat.lt_succ_of_le h))]
  exact ⟨_, rfl⟩

/-- R97, R201: the bytes 0 to 4 are headlight codes. -/
theorem headlightCmd_of_le {b : Byte} (h : b.toNat ≤ 4) : ∃ c, headlightCmd b = some c := by
  obtain rfl | rfl | rfl | rfl | rfl := byte_le_four h <;> exact ⟨_, rfl⟩

/-- R98, R202: every interior mode but 3 is legal. -/
theorem interiorCmd_of_ne {b : Byte} (h : b.toNat % 4 ≠ 3) : ∃ m, interiorCmd b = some m := by
  have hbits : (interiorModeBits b).toNat = b.toNat % 4 := by
    rw [interiorModeBits, BitVec.extractLsb'_toNat, Nat.shiftRight_zero]
  unfold interiorCmd codeIntOff codeIntOn codeIntAuto
  split_ifs
  · exact ⟨_, rfl⟩
  · exact ⟨_, rfl⟩
  · exact ⟨_, rfl⟩
  · bv_omega

/-- R99, R231: the bytes 0 to 4 are turn commands. -/
theorem turnCmd_of_le {b : Byte} (h : b.toNat ≤ 4) : ∃ c, turnCmd b = some c := by
  obtain rfl | rfl | rfl | rfl | rfl := byte_le_four h <;> exact ⟨_, rfl⟩

/-- R180 to R182: the door commands 1 to 4 are applied, those of a single door where the door byte names one. -/
theorem doorSteps_of_legal {op arg : Byte} (h1 : 1 ≤ op.toNat) (h4 : op.toNat ≤ 4)
    (hdoor : 3 ≤ op.toNat → arg.toNat ≤ 3) (s : State) : ∃ t, doorSteps op arg s = .applied t := by
  obtain rfl | rfl | rfl | rfl | rfl := byte_le_four h4
  · exact absurd h1 (by decide)
  · exact ⟨_, rfl⟩
  · exact ⟨_, rfl⟩
  · exact driveSelected_of_le (hdoor (by decide)) lockDrive s
  · exact driveSelected_of_le (hdoor (by decide)) unlockDrive s

/-- R200 to R202: a lighting command with a legal headlight code and a legal interior mode is applied. -/
theorem lightSteps_of_legal {op arg : Byte} (hop : op.toNat ≤ 4) (harg : arg.toNat % 4 ≠ 3) (s : State) :
    ∃ t, lightSteps op arg s = .applied t := by
  obtain ⟨c, hc⟩ := headlightCmd_of_le hop
  obtain ⟨m, hm⟩ := interiorCmd_of_ne harg
  rw [lightSteps, hc, hm]
  exact ⟨_, rfl⟩

/-- R230, R231: a legal turn command is applied, whatever its second byte. -/
theorem turnSteps_of_legal {op : Byte} (hop : op.toNat ≤ 4) (now : Time) (arg : Byte) (s : State) :
    ∃ t, turnSteps now op arg s = .applied t := by
  obtain ⟨c, hc⟩ := turnCmd_of_le hop
  rw [turnSteps, hc]
  exact ⟨_, rfl⟩

/-! ## ROUTE of a command frame -/

/-- R260, R326, U5: ROUTE answers for a Frame value at a time not below the last one, and hands the frame on. -/
theorem exec_route_eq_next (f : Frame) (now : Time) (s t : State) :
    exec (.route f now) s = .next t ↔
      f.data.length ≤ 8 ∧ s.lastNow ≤ now ∧ t = routeFrame f now (s.atTime now) := by
  change execRoute f now s = .next t ↔ _
  unfold execRoute Frame.wellFormed
  by_cases hlen : f.data.length ≤ 8
  · rw [if_pos (decide_eq_true hlen), performAt_eq_next, and_iff_right hlen]
    rfl
  · simp [hlen]

/-- R260: a channel's identifier selects its handler. -/
theorem routeFrame_of_ident {f : Frame} {ch : Channel} (h : f.id = ch.ident) (now : Time) (s : State) :
    routeFrame f now s = handle ch f now (channelSteps now ch) s := by
  obtain ⟨id, data⟩ := f
  subst h
  cases ch <;> rfl

section
variable {s : State} {ch : Channel} {now : Time}

/-- R160: ROUTE of a frame with a command identifier performs HANDLE on its channel. -/
theorem exec_route_handle {data : List Byte} (hl : s.lastNow ≤ now) (hlen : data.length ≤ 8) :
    exec (.route ⟨ch.ident, data⟩ now) s =
      .next (handle ch ⟨ch.ident, data⟩ now (channelSteps now ch) (s.atTime now)) :=
  (exec_route_eq_next ..).2 ⟨hlen, hl, (routeFrame_of_ident rfl ..).symm⟩

/-- R160: a 4-byte command frame passes the length check. -/
theorem exec_route_validate (op arg vc ck : Byte) (hl : s.lastNow ≤ now) :
    exec (.route ⟨ch.ident, [op, arg, vc, ck]⟩ now) s =
      .next (validate ch op arg vc ck now (channelSteps now ch op arg) (s.atTime now)) :=
  exec_route_handle hl (by decide : 4 ≤ 8)

/-- R160, R165, R167: an admitted command frame whose command the channel's steps apply is accepted. -/
theorem exec_route_accept {op arg ck : Byte} {ver ctr : Nib} {u : State} (hl : s.lastNow ≤ now)
    (hadmits : s.admits ch op arg ver ctr ck) (hsteps : channelSteps now ch op arg (s.atTime now) = .applied u) :
    exec (.route ⟨ch.ident, [op, arg, ver ++ ctr, ck]⟩ now) s = .next (accept ch ctr now u) := by
  obtain ⟨hck, hctr⟩ := hadmits
  have hcounter : extractCounter (ver ++ ctr) = ctr := extractCounter_buildVc ver ctr
  rw [exec_route_validate _ _ _ _ hl]
  rcases validate_cases ch op arg (ver ++ ctr) ck now (channelSteps now ch op arg) (s.atTime now) with
    ⟨hbad, -⟩ | ⟨-, hseeded, hbad, -⟩ | ⟨-, -, ⟨res, fc, hrej, -⟩ | ⟨u', happ, e⟩⟩
  · exact absurd ((validateChecksum_eq_true_iff ..).2 hck) (Bool.eq_false_iff.1 hbad)
  · rw [hcounter] at hbad
    exact absurd ((validateCounter_eq_true_iff ..).2 (hctr hseeded)) (Bool.eq_false_iff.1 hbad)
  · rw [hsteps] at hrej
    cases hrej
  · rw [hsteps] at happ
    cases happ
    rw [e, hcounter]

end

/-! ## The three common checks -/

/-- R166: the exception entry of an operation that has just begun, with a fault to report. -/
theorem reject_some_atTime (ch : Channel) (res c : Byte) (now : Time) (s : State) :
    reject ch res (some c) now (s.atTime now) = reportFault c now (s.rejectedOn ch res now) :=
  reject_some ..

/-- Settles O20: a payload that is not four bytes long is rejected unread (`handle_of_length`). -/
theorem wrongLengthIsRejected : Obligations.WrongLengthIsRejected := by
  unfold Obligations.WrongLengthIsRejected
  intro s ch data now hl hlen hne
  rw [exec_route_handle hl hlen, handle_of_length _ _ _ _ _ hne, reject_some_atTime]
  rfl

/-- Settles O21: the checksum is the first check after the length (`validate`). -/
theorem badChecksumIsRejected : Obligations.BadChecksumIsRejected := by
  unfold Obligations.BadChecksumIsRejected
  intro s ch b0 b1 b2 b3 now hl hck
  have hbad : validateChecksum [b0, b1, b2] b3 = false :=
    Bool.eq_false_iff.2 (mt (validateChecksum_eq_true_iff ..).1 hck)
  rw [exec_route_validate _ _ _ _ hl, validate, if_pos hbad, reject_some_atTime]
  rfl

/-- Settles O22: past the checksum, the outcomes of `validate_cases` are the counter's rejection, one of the
channel's steps, whose result is InvalidCommand (`channelSteps_rejected`), and an acceptance. -/
theorem badCounterIsRejected : Obligations.BadCounterIsRejected := by
  unfold Obligations.BadCounterIsRejected
  intro s ch b0 b1 b3 ver ctr now hl hck
  refine ⟨_, exec_route_validate b0 b1 _ b3 hl, ?_⟩
  have hctr : extractCounter (ver ++ ctr) = ctr := extractCounter_buildVc ver ctr
  rcases validate_cases ch b0 b1 (ver ++ ctr) b3 now (channelSteps now ch b0 b1) (s.atTime now) with
    ⟨hbad, -⟩ | ⟨-, hseeded, hbad, e⟩ | ⟨-, hgood, hsteps⟩
  case inl =>
    rw [(validateChecksum_eq_true_iff ..).2 hck] at hbad
    cases hbad
  case inr.inl =>
    rw [hctr, validateCounter_eq_false_iff] at hbad
    rw [if_pos ⟨hseeded, hbad⟩, e, reject_some_atTime]
    rfl
  case inr.inr =>
    rw [hctr] at hgood
    have hexpected : ¬ ((s.vr.get ch).seeded = true ∧
        ctr.toNat ≠ ((s.vr.get ch).lastCounter.toNat + 1) % 16) := fun ⟨hseeded, hne⟩ =>
      Bool.eq_false_iff.1 ((validateCounter_eq_false_iff ..).2 hne) (hgood hseeded)
    rw [if_neg hexpected]
    rcases hsteps with ⟨res, fc, hrej, e⟩ | ⟨u, -, e⟩ <;> rw [e]
    · obtain rfl := channelSteps_rejected hrej
      rw [reject_out, reject_vr, ValRecs.get_put_same]
      exact ⟨by simp [resInvalidCommand], fun _ => rfl⟩
    · exact ⟨by simp [resOk], fun hne => absurd rfl hne⟩

/-! ## Acceptance -/

/-- R200: a lighting command writes the five fields of its subsystem only. -/
theorem applyLighting_frame (c : HeadlightCmd) (m : InteriorCmd) (s : State) :
    applyLighting c m s = { s with
      headlightMode := (applyLighting c m s).headlightMode, highBeam := (applyLighting c m s).highBeam
      headlightOutput := (applyLighting c m s).headlightOutput
      interiorMode := (applyLighting c m s).interiorMode
      interiorBrightness := (applyLighting c m s).interiorBrightness } := by
  cases c <;> cases m <;> rfl

/-- R230: a turn command writes the four fields of its subsystem only. -/
theorem applyTurn_frame (c : TurnCmd) (now : Time) (s : State) :
    applyTurn c now s = { s with
      turnMode := (applyTurn c now s).turnMode, lampOn := (applyTurn c now s).lampOn
      flashCount := (applyTurn c now s).flashCount, lastToggle := (applyTurn c now s).lastToggle } := by
  rcases applyTurn_cases c now s with ⟨m, e⟩ | e | e <;> rw [e] <;> rfl

/-- Settles O25: a legal command passes its channel's steps (`doorSteps_of_legal`, `lightSteps_of_legal`,
`turnSteps_of_legal`), so it is accepted (`exec_route_accept`); what the steps applied is confined to the
channel's own subsystem. -/
theorem routeAcceptsLegalCommands : Obligations.RouteAcceptsLegalCommands := by
  unfold Obligations.RouteAcceptsLegalCommands
  intro s b0 b1 ck ver ctr now hl
  refine ⟨fun hadmits h1 h4 hdoor => ?door, fun hadmits hop harg => ?light, fun hadmits hop => ?turn⟩
  case door =>
    obtain ⟨u, hu⟩ := doorSteps_of_legal h1 h4 hdoor (s.atTime now)
    refine ⟨_, exec_route_accept (ch := .door) hl hadmits hu, ?_⟩
    obtain ⟨l, rfl⟩ := doorSteps_applied hu
    rfl
  case light =>
    obtain ⟨u, hu⟩ := lightSteps_of_legal hop harg (s.atTime now)
    refine ⟨_, exec_route_accept (ch := .light) hl hadmits hu, ?_⟩
    obtain ⟨c, m, rfl⟩ := lightSteps_applied hu
    rw [applyLighting_frame]
    rfl
  case turn =>
    obtain ⟨u, hu⟩ := turnSteps_of_legal hop now b1 (s.atTime now)
    refine ⟨_, exec_route_accept (ch := .turn) hl hadmits hu, ?_⟩
    obtain ⟨c, rfl⟩ := turnSteps_applied (arg := b1) hu
    rw [applyTurn_frame]
    rfl

/-! ## Rejection -/

/-- R166, R140: a rejection writes the channel's last result, the returned result and the Fault Tracker. -/
theorem reject_frame (ch : Channel) (res : Byte) (fc : Option Byte) (now : Time) (s : State) :
    reject ch res fc now s = { s with
      vr := s.vr.put ch { s.vr.get ch with lastResult := res }, out := { s.out with result := .code res }
      records := (reject ch res fc now s).records, flags := (reject ch res fc now s).flags
      mostRecent := (reject ch res fc now s).mostRecent, recentTime := (reject ch res fc now s).recentTime } := by
  cases fc with
  | none => rfl
  | some c => rw [reject_some]; exact reportFault_frame ..

/-- Settles O26: a frame without a command identifier returns nothing and an accepted one returns OK, so the
frame was rejected (`handle_cases`), which writes no more than `reject_frame` says. -/
theorem rejectionWritesNothingElse : Obligations.RejectionWritesNothingElse := by
  unfold Obligations.RejectionWritesNothingElse
  intro f now s t r h hr hr0
  obtain ⟨-, -, rfl⟩ := (exec_route_eq_next ..).1 h
  by_cases hid : ∃ ch : Channel, f.id = ch.ident
  case neg =>
    rw [routeFrame_of_other (fun e => hid ⟨.door, e⟩) (fun e => hid ⟨.light, e⟩) (fun e => hid ⟨.turn, e⟩)] at hr
    cases hr
  case pos =>
    obtain ⟨ch, hch⟩ := hid
    refine ⟨ch, hch, ?_⟩
    rw [routeFrame_of_ident hch] at hr ⊢
    rcases handle_cases ch f now (channelSteps now ch) (s.atTime now) with
      ⟨res, fc, e⟩ | ⟨op, arg, ctr, u, -, e⟩ <;> rw [e] at hr ⊢
    case inl =>
      rw [reject_out] at hr
      cases hr
      exact reject_frame ..
    case inr =>
      cases hr
      exact absurd rfl hr0

end Sys2Proof.Machine
end

section
/-! PROOFS. The door channel (43_door.md): the illegal commands of every channel (R181, R201, R231) and the
door-select check (R182), what the door commands and DOOR_TICK do to the locks (R183 to R190), and who reads the
door-open latch (R192, R193). -/

namespace Sys2Proof.Machine

/-! ## Illegal commands -/

/-- R97, R201: the bytes above 4 are no headlight codes. -/
theorem headlightCmd_of_gt {b : Byte} (h : 4 < b.toNat) : headlightCmd b = none := by
  cases hc : headlightCmd b with
  | none => rfl
  | some c =>
    obtain rfl := headlightCmd_eq_some hc
    cases c <;> exact absurd h (by decide)

/-- R98, R202: interior mode 3 is illegal. -/
theorem interiorCmd_of_eq {b : Byte} (h : b.toNat % 4 = 3) : interiorCmd b = none := by
  have hbits : interiorModeBits b = 3 := by
    apply BitVec.eq_of_toNat_eq
    rw [interiorModeBits, BitVec.extractLsb'_toNat, Nat.shiftRight_zero]
    exact h
  rw [interiorCmd, hbits]
  rfl

/-- R99, R231: the bytes above 4 are no turn commands. -/
theorem turnCmd_of_gt {b : Byte} (h : 4 < b.toNat) : turnCmd b = none := by
  cases hc : turnCmd b with
  | none => rfl
  | some c =>
    obtain rfl := turnCmd_eq_some hc
    cases c <;> exact absurd h (by decide)

/-- R181: the door commands are 1 to 4. -/
theorem doorSteps_of_illegal {op : Byte} (h : op.toNat = 0 ∨ 4 < op.toNat) (arg : Byte) (s : State) :
    doorSteps op arg s = .rejected resInvalidCommand (some fcInvalidCommand) := by
  have hne : op ≠ cmdLockAll ∧ op ≠ cmdUnlockAll ∧ op ≠ cmdLockSingle ∧ op ≠ cmdUnlockSingle := by
    refine ⟨?_, ?_, ?_, ?_⟩ <;> rintro rfl <;> exact absurd h (by decide)
  obtain ⟨h1, h2, h3, h4⟩ := hne
  rw [doorSteps, if_neg h1, if_neg h2, if_neg h3, if_neg h4]

/-- R201, R202: one illegal byte is enough to reject a lighting command. -/
theorem lightSteps_of_illegal {op arg : Byte} (h : 4 < op.toNat ∨ arg.toNat % 4 = 3) (s : State) :
    lightSteps op arg s = .rejected resInvalidCommand (some fcInvalidCommand) := by
  unfold lightSteps
  rcases h with hop | harg
  · rw [headlightCmd_of_gt hop]
  · rw [interiorCmd_of_eq harg]
    cases headlightCmd op <;> rfl

/-- R231: the turn commands are 0 to 4. -/
theorem turnSteps_of_illegal {op : Byte} (h : 4 < op.toNat) (now : Time) (arg : Byte) (s : State) :
    turnSteps now op arg s = .rejected resInvalidCommand (some fcInvalidCommand) := by
  rw [turnSteps, turnCmd_of_gt h]

/-- R160, R165, R166: an admitted command frame that the channel's steps reject goes to the exception entry. -/
theorem exec_route_reject {s : State} {ch : Channel} {now : Time} {op arg ck res : Byte} {fc : Option Byte}
    {ver ctr : Nib} (hl : s.lastNow ≤ now) (hadmits : s.admits ch op arg ver ctr ck)
    (hsteps : channelSteps now ch op arg (s.atTime now) = .rejected res fc) :
    exec (.route ⟨ch.ident, [op, arg, ver ++ ctr, ck]⟩ now) s = .next (reject ch res fc now (s.atTime now)) := by
  obtain ⟨hck, hctr⟩ := hadmits
  have hsum : ¬ validateChecksum [op, arg, ver ++ ctr] ck = false :=
    Bool.not_eq_false _ ▸ (validateChecksum_eq_true_iff ..).2 hck
  have hexpected : ¬ (((s.atTime now).vr.get ch).seeded = true ∧
      validateCounter (extractCounter (ver ++ ctr)) ((s.atTime now).vr.get ch).lastCounter = false) := by
    rintro ⟨hseeded, hbad⟩
    have hctr' : extractCounter (ver ++ ctr) = (s.vr.get ch).lastCounter + 1 :=
      (extractCounter_buildVc ver ctr).trans (hctr hseeded)
    exact Bool.eq_false_iff.1 hbad ((validateCounter_eq_true_iff ..).2 hctr')
  rw [exec_route_validate _ _ _ _ hl, validate, if_neg hsum, if_neg hexpected, hsteps]

/-- Settles O23: the frame passes the common checks, the channel's own steps reject it with InvalidCommand and a
fault, and the exception entry does the rest. -/
theorem illegalCommandsAreRejected : Obligations.IllegalCommandsAreRejected := by
  unfold Obligations.IllegalCommandsAreRejected
  intro s b0 b1 b3 ver ctr now hl
  refine ⟨fun hadmits h => ?door, fun hadmits h => ?light, fun hadmits h => ?turn⟩
  case door =>
    exact (exec_route_reject (ch := .door) hl hadmits (doorSteps_of_illegal h b1 _)).trans
      (congrArg _ (reject_some_atTime ..))
  case light =>
    exact (exec_route_reject (ch := .light) hl hadmits (lightSteps_of_illegal h _)).trans
      (congrArg _ (reject_some_atTime ..))
  case turn =>
    exact (exec_route_reject (ch := .turn) hl hadmits (turnSteps_of_illegal h now b1 _)).trans
      (congrArg _ (reject_some_atTime ..))

/-! ## The door-select check -/

/-- R88, R182: a door-select byte above 3 names no door, and that is no fault. -/
theorem driveSelected_of_gt {doorId : Byte} (h : 3 < doorId.toNat) (drive : LockState → LockState) (s : State) :
    driveSelected drive doorId s = .rejected resInvalidCommand none := by
  have hsel : doorSelect doorId = none := if_neg (by bv_omega)
  rw [driveSelected, hsel]

/-- R182: only the commands of a single door look at the door-select byte. -/
theorem doorSteps_of_noDoor {op arg : Byte} (h3 : 3 ≤ op.toNat) (h4 : op.toNat ≤ 4) (hdoor : 3 < arg.toNat)
    (s : State) : doorSteps op arg s = .rejected resInvalidCommand none := by
  obtain rfl | rfl : op = cmdLockSingle ∨ op = cmdUnlockSingle := by
    unfold cmdLockSingle cmdUnlockSingle
    bv_omega
  · exact driveSelected_of_gt hdoor lockDrive s
  · exact driveSelected_of_gt hdoor unlockDrive s

/-- Settles O24: the single-door commands without a door are rejected by `doorSteps_of_noDoor`; every other frame
carries a legal command, which R167 accepts without touching the Fault Tracker (`routeAcceptsLegalCommands`). -/
theorem doorSelectIsRejectedWithoutFault : Obligations.DoorSelectIsRejectedWithoutFault := by
  unfold Obligations.DoorSelectIsRejectedWithoutFault
  intro s op doorId ck ver ctr now hl h1 h4 hadmits
  by_cases hbad : 3 ≤ op.toNat ∧ 3 < doorId.toNat
  case pos =>
    refine ⟨_, exec_route_reject (ch := .door) hl hadmits (doorSteps_of_noDoor hbad.1 h4 hbad.2 _), ?_⟩
    rw [if_pos hbad, reject_none]
    rfl
  case neg =>
    obtain ⟨hlegal, -, -⟩ := routeAcceptsLegalCommands s op doorId ck ver ctr now hl
    obtain ⟨t, ht, hframe⟩ := hlegal hadmits h1 h4 (fun h3 => Nat.le_of_not_lt fun hgt => hbad ⟨h3, hgt⟩)
    refine ⟨t, ht, ?_⟩
    rw [if_neg hbad, hframe]
    exact ⟨rfl, rfl⟩

/-! ## Door commands -/

/-- R183: what driving a door to `Locked` makes of its state. -/
theorem lockDrive_eq (l : LockState) : lockDrive l = if l = .locked then .locked else .locking := by
  cases l <;> rfl

/-- R183: what driving a door to `Unlocked` makes of its state. -/
theorem unlockDrive_eq (l : LockState) : unlockDrive l = if l = .unlocked then .unlocked else .unlocking := by
  cases l <;> rfl

/-- R183, R186, R187: the selected door is driven unless it is `done`, the others are left alone. -/
theorem get_modify_drive {drive : LockState → LockState} {done moving : LockState}
    (hdrive : ∀ x, drive x = if x = done then done else moving) (l : Locks) (i j : DoorNo) :
    (l.modify i drive).get j = if j = i ∧ l.get j ≠ done then moving else l.get j := by
  rw [Locks.get_modify, hdrive]
  by_cases hj : j = i
  · subst hj
    by_cases hdone : l.get j = done <;> simp [hdone]
  · simp [hj]

/-- R88: the door a door-select byte of 0 to 3 names. -/
theorem doorSelect_of_le {doorId : Byte} (h : doorId.toNat ≤ 3) :
    ∃ i : DoorNo, doorSelect doorId = some i ∧ ∀ j : DoorNo, j = i ↔ j.toNat = doorId.toNat := by
  refine ⟨doorId.extractLsb' 0 2, if_pos (BitVec.lt_def.2 (Nat.lt_succ_of_le h)), fun j => ?_⟩
  rw [← BitVec.toNat_inj, BitVec.extractLsb'_toNat, Nat.shiftRight_zero, Nat.mod_eq_of_lt (Nat.lt_succ_of_le h)]

/-- R180: a single-door command drives the door its byte names. -/
theorem driveSelected_of_door {doorId : Byte} {i : DoorNo} (h : doorSelect doorId = some i)
    (drive : LockState → LockState) (s : State) :
    driveSelected drive doorId s = .applied { s with lock := s.lock.modify i drive } := by
  rw [driveSelected, h]

section
variable {i : Instr} {s : State} {op doorId ck : Byte} {ver ctr : Nib} {now : Time}

/-- R167, R180: a row of the door channel whose admitted command leaves the locks `l` completes with the accept
bookkeeping and these locks. -/
theorem exec_doorRow_accept {l : Locks}
    (hrow : i.frame? = some (⟨0x100, [op, doorId, ver ++ ctr, ck]⟩, now)) (hl : s.lastNow ≤ now)
    (hadmits : s.admits .door op doorId ver ctr ck)
    (hsteps : doorSteps op doorId (s.atTime now) = .applied { s.atTime now with lock := l }) :
    exec i s = .next { s.acceptedOn .door ctr now with lock := l } :=
  (frameRowMeansRouteOfItsFrame i _ now s hrow).trans (exec_route_accept (ch := .door) hl hadmits hsteps)

/-- R182: a row of the door channel whose admitted command names no door is rejected without a fault. -/
theorem exec_doorRow_reject
    (hrow : i.frame? = some (⟨0x100, [op, doorId, ver ++ ctr, ck]⟩, now)) (hl : s.lastNow ≤ now)
    (hadmits : s.admits .door op doorId ver ctr ck)
    (hsteps : doorSteps op doorId (s.atTime now) = .rejected resInvalidCommand none) :
    exec i s = .next (s.rejectedOn .door 1 now) :=
  (frameRowMeansRouteOfItsFrame i _ now s hrow).trans (exec_route_reject (ch := .door) hl hadmits hsteps)

end

/-- Settles O31: both rows are accepted (`exec_doorRow_accept`) with every door driven (`Locks.get_mapAll`). -/
theorem doorAllCommandsDriveEveryDoor : Obligations.DoorAllCommandsDriveEveryDoor := by
  unfold Obligations.DoorAllCommandsDriveEveryDoor
  intro s doorId ck ver ctr now hl
  refine ⟨rfl, rfl, fun hadmits => ?lockAll, fun hadmits => ?unlockAll⟩
  case lockAll =>
    refine ⟨_, exec_doorRow_accept (l := s.lock.mapAll lockDrive) rfl hl hadmits rfl, rfl, fun i => ?_⟩
    rw [Locks.get_mapAll, lockDrive_eq]
  case unlockAll =>
    refine ⟨_, exec_doorRow_accept (l := s.lock.mapAll unlockDrive) rfl hl hadmits rfl, rfl, fun i => ?_⟩
    rw [Locks.get_mapAll, unlockDrive_eq]

/-- Settles O32: with a door the byte names (`doorSelect_of_le`) the row is accepted and that door driven; without
one it is rejected (`driveSelected_of_gt`). -/
theorem doorSingleCommandsDriveOneDoor : Obligations.DoorSingleCommandsDriveOneDoor := by
  unfold Obligations.DoorSingleCommandsDriveOneDoor
  intro s doorId ck ver ctr now hl
  refine ⟨rfl, rfl, fun hadmits hdoor => ?lock, fun hadmits hdoor => ?lockNone,
    fun hadmits hdoor => ?unlockNone, fun hadmits hdoor => ?unlock⟩
  case lock =>
    obtain ⟨k, hsel, hk⟩ := doorSelect_of_le hdoor
    refine ⟨_, exec_doorRow_accept (l := s.lock.modify k lockDrive) rfl hl hadmits
      (driveSelected_of_door hsel lockDrive _), rfl, fun i => ?_⟩
    rw [get_modify_drive lockDrive_eq]
    simp only [hk]
  case lockNone => exact exec_doorRow_reject rfl hl hadmits (driveSelected_of_gt hdoor lockDrive _)
  case unlockNone => exact exec_doorRow_reject rfl hl hadmits (driveSelected_of_gt hdoor unlockDrive _)
  case unlock =>
    obtain ⟨k, hsel, hk⟩ := doorSelect_of_le hdoor
    refine ⟨_, exec_doorRow_accept (l := s.lock.modify k unlockDrive) rfl hl hadmits
      (driveSelected_of_door hsel unlockDrive _), rfl, fun i => ?_⟩
    rw [get_modify_drive unlockDrive_eq]
    simp only [hk]

/-! ## DOOR_TICK -/

/-- R190: what a tick makes of a door's state. -/
theorem advanceLock_eq (l : LockState) : advanceLock l =
    if l = .locking then .locked else if l = .unlocking then .unlocked else l := by
  cases l <;> rfl

/-- R190: a tick leaves no transient state. -/
@[simp] theorem advanceLock_advanceLock (l : LockState) : advanceLock (advanceLock l) = advanceLock l := by
  cases l <;> rfl

@[simp] theorem mapAll_advanceLock_twice (l : Locks) :
    (l.mapAll advanceLock).mapAll advanceLock = l.mapAll advanceLock := by
  simp [Locks.mapAll]

/-- R190: DOOR_TICK at the port. -/
theorem exec_doorTick (s : State) :
    exec .doorTick s = .next { s.answering .none with lock := s.lock.mapAll advanceLock } := rfl

/-- Settles O33: every door is advanced (`advanceLock_eq`), and the second tick finds no transient state. -/
theorem doorTickEndsTransientStates : Obligations.DoorTickEndsTransientStates := by
  unfold Obligations.DoorTickEndsTransientStates
  refine ⟨rfl, fun s => ⟨_, exec_doorTick s, rfl, fun i => ?advances, ?again⟩⟩
  case advances => rw [Locks.get_mapAll, advanceLock_eq]
  case again => rw [exec_doorTick, mapAll_advanceLock_twice]; rfl

/-! ## RENDER_DOOR_STATUS -/

theorem getLsbD_maskByte (b0 b1 b2 b3 : Bool) :
    (maskByte b0 b1 b2 b3).getLsbD 0 = b0 ∧ (maskByte b0 b1 b2 b3).getLsbD 1 = b1 ∧
    (maskByte b0 b1 b2 b3).getLsbD 2 = b2 ∧ (maskByte b0 b1 b2 b3).getLsbD 3 = b3 := by
  revert b0 b1 b2 b3
  decide

/-- R91: the upper four bits of a mask byte are 0. -/
theorem maskByte_lt (b0 b1 b2 b3 : Bool) : (maskByte b0 b1 b2 b3).toNat < 16 := by
  revert b0 b1 b2 b3
  decide

/-- R91, R193: bit `i` of the lock mask tells whether door `i` is `Locked`. -/
theorem getLsbD_lockMask (l : Locks) (i : DoorNo) : (lockMask l).getLsbD i.toNat = (l.get i == .locked) := by
  obtain ⟨h0, h1, h2, h3⟩ :=
    getLsbD_maskByte (l.d0 == .locked) (l.d1 == .locked) (l.d2 == .locked) (l.d3 == .locked)
  have hi : i = 0 ∨ i = 1 ∨ i = 2 ∨ i = 3 := by revert i; decide
  obtain rfl | rfl | rfl | rfl := hi
  · exact h0
  · exact h1
  · exact h2
  · exact h3

/-- Settles O34: the frame is the one `sendFrame` builds from the lock mask (`getLsbD_lockMask`), the widened open
mask, the last result and the fault count. -/
theorem doorStatusShowsTheDoors : Obligations.DoorStatusShowsTheDoors := by
  unfold Obligations.DoorStatusShowsTheDoors
  refine ⟨rfl, fun s => ⟨lockMask s.lock, s.doorOpen.setWidth 8, _, _, rfl, getLsbD_lockMask s.lock,
    maskByte_lt .., ?opens, rfl, rfl⟩⟩
  case opens => exact BitVec.toNat_setWidth_of_le (by decide)

/-! ## The door-open latch -/

/-- `s` with the latch holding `m` and `fs` emitted so far: what the rest of the core is to be blind to. -/
def State.showing (s : State) (m : Nib) (fs : List Frame) : State :=
  { s with doorOpen := m, out := { s.out with frames := fs } }

theorem State.showing_self (s : State) : s.showing s.doorOpen s.out.frames = s := rfl

theorem State.showing_frames (s : State) (m : Nib) : s.showing m s.out.frames = { s with doorOpen := m } := rfl

theorem State.showing_ite (c : Prop) [Decidable c] (s t : State) (m : Nib) (fs : List Frame) :
    (if c then s else t).showing m fs = if c then s.showing m fs else t.showing m fs :=
  apply_ite (State.showing · m fs) c s t

/-- R192: whatever the latch holds and was emitted before, `f` does the same but for the frames it emits. -/
def HidesLatch (f : State → State) : Prop :=
  ∀ s m fs, ∃ fs', f (s.showing m fs) = (f s).showing m fs'

/-- R192: whatever the latch holds and was emitted before, `f` does the same and emits nothing. -/
def BlindToLatch (f : State → State) : Prop := ∀ s m fs, f (s.showing m fs) = (f s).showing m fs

section
variable {f g : State → State}

theorem BlindToLatch.hidesLatch (hf : BlindToLatch f) : HidesLatch f := fun s m fs => ⟨fs, hf s m fs⟩

theorem HidesLatch.comp (hg : HidesLatch g) (hf : HidesLatch f) : HidesLatch (fun s => g (f s)) := fun s m fs => by
  obtain ⟨fs', hfs⟩ := hf s m fs
  obtain ⟨fs'', hgs⟩ := hg (f s) m fs'
  exact ⟨fs'', (congrArg g hfs).trans hgs⟩

/-- What hides the latch does not write it. -/
theorem HidesLatch.doorOpen (hf : HidesLatch f) (s : State) : (f s).doorOpen = s.doorOpen := by
  obtain ⟨fs, h⟩ := hf s s.doorOpen s.out.frames
  rw [State.showing_self] at h
  exact (congrArg State.doorOpen h :)

/-- An update that is blind to the latch and to the frames writes no frame, and commutes with a write of the
latch. -/
theorem BlindToLatch.commutes (hf : BlindToLatch f) (s : State) (m : Nib) :
    f { s with doorOpen := m } = { f s with doorOpen := m } := by
  have hframes : (f s).out.frames = s.out.frames := congrArg (·.out.frames) (hf s s.doorOpen s.out.frames)
  rw [← State.showing_frames, ← State.showing_frames, hframes]
  exact hf s m s.out.frames

end

/-! ## The updates that do not read the latch -/

/-- R141: a report reads the Fault Tracker and the capacity only. -/
theorem reportFault_showing (c : Byte) (now : Time) (s : State) (m : Nib) (fs : List Frame) :
    reportFault c now (s.showing m fs) = (reportFault c now s).showing m fs := by
  unfold reportFault
  rw [State.showing_ite, State.showing_ite]
  rfl

theorem clearFault_showing (c : Byte) (s : State) (m : Nib) (fs : List Frame) :
    clearFault c (s.showing m fs) = (clearFault c s).showing m fs := by
  unfold clearFault
  rw [State.showing_ite]
  rfl

theorem lightTick_showing (now : Time) (s : State) (m : Nib) (fs : List Frame) :
    lightTick now (s.showing m fs) = (lightTick now s).showing m fs := by
  unfold lightTick
  rw [reportFault_showing, State.showing_ite]
  rfl

theorem turnTick_showing (now : Time) (s : State) (m : Nib) (fs : List Frame) :
    turnTick now (s.showing m fs) = (turnTick now s).showing m fs := by
  unfold turnTick
  rw [State.showing_ite]
  rfl

theorem checkTimeout_showing (now : Time) (s : State) (m : Nib) (fs : List Frame) :
    checkTimeout now (s.showing m fs) = (checkTimeout now s).showing m fs := by
  unfold checkTimeout
  rw [State.showing_ite, ← reportFault_showing]
  rfl

/-! ## Command validation -/

/-- What a channel's steps give, with the latch and the frames of the applied state replaced. -/
def Steps.showing (m : Nib) (fs : List Frame) : Steps → Steps
  | .rejected res fc => .rejected res fc
  | .applied s => .applied (s.showing m fs)

/-- R166: the exception entry. -/
theorem reject_showing (ch : Channel) (res : Byte) (fc : Option Byte) (now : Time) (s : State) (m : Nib)
    (fs : List Frame) : reject ch res fc now (s.showing m fs) = (reject ch res fc now s).showing m fs := by
  cases fc with
  | none => rfl
  | some c =>
    rw [reject_some, reject_some, ← reportFault_showing]
    rfl

theorem doorSteps_showing (op arg : Byte) (s : State) (m : Nib) (fs : List Frame) :
    doorSteps op arg (s.showing m fs) = (doorSteps op arg s).showing m fs := by
  unfold doorSteps driveSelected
  cases doorSelect arg <;> split_ifs <;> rfl

theorem applyLighting_showing (c : HeadlightCmd) (i : InteriorCmd) (s : State) (m : Nib) (fs : List Frame) :
    applyLighting c i (s.showing m fs) = (applyLighting c i s).showing m fs := by
  cases c <;> cases i <;> rfl

theorem lightSteps_showing (op arg : Byte) (s : State) (m : Nib) (fs : List Frame) :
    lightSteps op arg (s.showing m fs) = (lightSteps op arg s).showing m fs := by
  unfold lightSteps
  cases headlightCmd op with
  | none => rfl
  | some c =>
    cases interiorCmd arg with
    | none => rfl
    | some i => exact congrArg Steps.applied (applyLighting_showing c i s m fs)

/-- R239: the turn commands look at the turn mode only. -/
theorem applyTurn_showing (c : TurnCmd) (now : Time) (s : State) (m : Nib) (fs : List Frame) :
    applyTurn c now (s.showing m fs) = (applyTurn c now s).showing m fs := by
  have hmode : (s.showing m fs).turnMode = s.turnMode := rfl
  cases c <;>
    simp only [applyTurn, applyTurnOff, applyTurnLeft, applyTurnRight, applyHazardOn, applyHazardOff, hmode] <;>
    split <;> rfl

theorem turnSteps_showing (now : Time) (op arg : Byte) (s : State) (m : Nib) (fs : List Frame) :
    turnSteps now op arg (s.showing m fs) = (turnSteps now op arg s).showing m fs := by
  unfold turnSteps
  cases turnCmd op with
  | none => rfl
  | some c => exact congrArg Steps.applied (applyTurn_showing c now s m fs)

/-- R192: "an open door does not inhibit locking", nor any other command. -/
theorem channelSteps_showing (now : Time) (ch : Channel) (op arg : Byte) (s : State) (m : Nib) (fs : List Frame) :
    channelSteps now ch op arg (s.showing m fs) = (channelSteps now ch op arg s).showing m fs := by
  cases ch with
  | door => exact doorSteps_showing op arg s m fs
  | light => exact lightSteps_showing op arg s m fs
  | turn => exact turnSteps_showing now op arg s m fs

/-- R160: none of the checks of a 4-byte frame looks at the latch. -/
theorem validate_showing (ch : Channel) (op arg vc ck : Byte) (now : Time) {steps : State → Steps}
    (hsteps : ∀ s m fs, steps (s.showing m fs) = (steps s).showing m fs) (s : State) (m : Nib) (fs : List Frame) :
    validate ch op arg vc ck now steps (s.showing m fs) =
      (validate ch op arg vc ck now steps s).showing m fs := by
  have hvr : (s.showing m fs).vr = s.vr := rfl
  unfold validate
  rw [hsteps, hvr, reject_showing, reject_showing]
  split_ifs
  · rfl
  · rfl
  · cases steps s with
    | rejected res fc => exact reject_showing ch res fc now s m fs
    | applied u => rfl

theorem handle_showing (ch : Channel) (f : Frame) (now : Time) (s : State) (m : Nib) (fs : List Frame) :
    handle ch f now (channelSteps now ch) (s.showing m fs) =
      (handle ch f now (channelSteps now ch) s).showing m fs := by
  unfold handle
  split
  · exact validate_showing ch _ _ _ _ now (channelSteps_showing now ch _ _) s m fs
  · exact reject_showing ch _ _ now s m fs

/-- R260: ROUTE hands a frame to the channel its identifier selects, or ignores it. -/
theorem routeFrame_showing (f : Frame) (now : Time) (s : State) (m : Nib) (fs : List Frame) :
    routeFrame f now (s.showing m fs) = (routeFrame f now s).showing m fs := by
  unfold routeFrame
  split_ifs
  · exact handle_showing .door f now s m fs
  · exact handle_showing .light f now s m fs
  · exact handle_showing .turn f now s m fs
  · rfl

/-! ## SCHED -/

/-- R263: a trigger that is not due does nothing. -/
theorem HidesLatch.ite {f : State → State} {c : State → Prop} [DecidablePred c]
    (hc : ∀ s m fs, c (s.showing m fs) ↔ c s) (hf : HidesLatch f) :
    HidesLatch (fun s => if c s then f s else s) := fun s m fs => by
  by_cases h : c s
  · obtain ⟨fs', hfs⟩ := hf s m fs
    exact ⟨fs', by simp only [if_pos h, if_pos ((hc s m fs).2 h), hfs]⟩
  · exact ⟨fs, by simp only [if_neg h, if_neg (mt (hc s m fs).1 h)]⟩

/-- R265: the fast trigger emits nothing. -/
theorem hidesLatch_fastTrigger (now : Time) : HidesLatch (fastTrigger now) :=
  HidesLatch.ite (fun _ _ _ => Iff.rfl) fun s m fs => ⟨fs, by
    rw [← turnTick_showing, ← lightTick_showing]
    rfl⟩

/-- R266: the status trigger emits the door status, which shows the latch. -/
theorem hidesLatch_statusTrigger (now : Time) : HidesLatch (statusTrigger now) :=
  HidesLatch.ite (fun _ _ _ => Iff.rfl) fun _ _ _ => ⟨_, rfl⟩

/-- R267: the slow trigger emits its frames after whatever was emitted before. -/
theorem hidesLatch_slowTrigger (now : Time) : HidesLatch (slowTrigger now) :=
  HidesLatch.ite (fun _ _ _ => Iff.rfl)
    ((BlindToLatch.hidesLatch (checkTimeout_showing now)).comp fun _ _ _ => ⟨_, rfl⟩)

/-- R264: SCHED invokes its triggers one after another. -/
theorem hidesLatch_sched (now : Time) : HidesLatch (sched now) :=
  (hidesLatch_slowTrigger now).comp ((hidesLatch_statusTrigger now).comp (hidesLatch_fastTrigger now))

/-! ## Who reads the latch -/

/-- R192: from `s` to `t` the operation `i` keeps the latch, and with another value of it does the same and emits
the same. -/
def IgnoresLatch (i : Instr) (s t : State) : Prop :=
  t.doorOpen = s.doorOpen ∧ ∀ m, exec i { s with doorOpen := m } = .next { t with doorOpen := m }

section
variable {i : Instr} {f : State → State} {now : Time} {s t : State}

theorem ignoresLatch_of_perform (hi : ∀ u, exec i u = perform f u) (hf : BlindToLatch f)
    (h : exec i s = .next t) : IgnoresLatch i s t := by
  rw [hi, perform_eq_next] at h
  subst h
  refine ⟨hf.hidesLatch.doorOpen _, fun m => ?_⟩
  rw [hi, perform_eq_next]
  exact (hf.commutes s.begun m).symm

theorem ignoresLatch_of_performAt (hi : ∀ u, exec i u = performAt now f u) (hf : BlindToLatch f)
    (h : exec i s = .next t) : IgnoresLatch i s t := by
  rw [hi, performAt_eq_next] at h
  obtain ⟨hl, rfl⟩ := h
  refine ⟨hf.hidesLatch.doorOpen _, fun m => ?_⟩
  rw [hi, performAt_eq_next]
  exact ⟨hl, (hf.commutes { s.begun with lastNow := now } m).symm⟩

end

/-- R260, U5: ROUTE of a Frame value. -/
theorem execRoute_of_length {f : Frame} (h : f.data.length ≤ 8) (now : Time) (s : State) :
    execRoute f now s = performAt now (routeFrame f now) s := if_pos (decide_eq_true h)

/-- R192, R260: a ROUTE that completes does not look at the latch. -/
theorem ignoresLatch_route {f : Frame} {now : Time} {s t : State} (h : exec (.route f now) s = .next t) :
    IgnoresLatch (.route f now) s t := by
  obtain ⟨hlen, -, -⟩ := (exec_route_eq_next ..).1 h
  exact ignoresLatch_of_performAt (fun u => execRoute_of_length hlen now u) (routeFrame_showing f now) h

/-- R192: a row of the opcode table means ROUTE of its frame (R95), which does not look at the latch. -/
theorem ignoresLatch_of_standsFor {i : Instr} {f : Frame} {now : Time} {s t : State} (hf : StandsFor i f now)
    (h : exec i s = .next t) : IgnoresLatch i s t := by
  obtain ⟨hlatch, hexec⟩ := ignoresLatch_route ((hf.exec_eq s).symm.trans h)
  exact ⟨hlatch, fun m => (hf.exec_eq _).trans (hexec m)⟩

/-- R192: of the operations that bring no frame, all but SET_DOOR_OPEN, RENDER_DOOR_STATUS and SCHED neither write
the latch nor look at it. -/
theorem ignoresLatch_of_no_frame {i : Instr} {s t : State} (hrow : i.frame? = none)
    (hroute : ∀ f now, i ≠ .route f now) (hset : ∀ m, i ≠ .setDoorOpen m) (hrender : i ≠ .renderDoorStatus)
    (hsched : ∀ now, i ≠ .sched now) (h : exec i s = .next t) : IgnoresLatch i s t := by
  cases i with
  | route f now => exact absurd rfl (hroute f now)
  | sched now => exact absurd rfl (hsched now)
  | setDoorOpen m => exact absurd rfl (hset m)
  | renderDoorStatus => exact absurd rfl hrender
  | lightTick now => exact ignoresLatch_of_performAt (fun _ => rfl) (lightTick_showing now) h
  | turnTick now => exact ignoresLatch_of_performAt (fun _ => rfl) (turnTick_showing now) h
  | checkTimeout now => exact ignoresLatch_of_performAt (fun _ => rfl) (checkTimeout_showing now) h
  | setAmbient level now =>
    exact ignoresLatch_of_performAt (f := setAmbient level now) (fun _ => rfl) (fun _ _ _ => rfl) h
  | renderHeartbeat now =>
    obtain ⟨hl, rfl⟩ := (performAt_eq_next now (renderHeartbeat now) s t).1 h
    exact ⟨rfl, fun _ => (performAt_eq_next now (renderHeartbeat now) _ _).2 ⟨hl, rfl⟩⟩
  | faultReport code now =>
    have hc : code ≠ 0 := by rintro rfl; cases h
    exact ignoresLatch_of_performAt (fun _ => if_neg hc) (reportFault_showing code now) h
  | faultClear code => exact ignoresLatch_of_perform (fun _ => rfl) (clearFault_showing code) h
  | doorTick | renderLightStatus | renderTurnStatus | renderFaultStatus | faultClearAll | faultIsActive |
    faultCount | faultFlags | faultMostRecent | buildVc | extractVersion | extractCounter | validateCounter =>
    cases h
    exact ⟨rfl, fun _ => rfl⟩
  | checksum bytes | validateChecksum _ bytes =>
    cases bytes with
    | nil => cases h
    | cons =>
      cases h
      exact ⟨rfl, fun _ => rfl⟩
  | _ => cases hrow

/-- R192: every operation but SET_DOOR_OPEN, RENDER_DOOR_STATUS and SCHED ignores the latch. -/
theorem exec_ignoresLatch {i : Instr} {s t : State} (hset : ∀ m, i ≠ .setDoorOpen m)
    (hrender : i ≠ .renderDoorStatus) (hsched : ∀ now, i ≠ .sched now) (h : exec i s = .next t) :
    IgnoresLatch i s t := by
  by_cases hframe : ∃ f now, StandsFor i f now
  · obtain ⟨f, now, hf⟩ := hframe
    exact ignoresLatch_of_standsFor hf h
  · have hrow : i.frame? = none :=
      Option.eq_none_iff_forall_ne_some.2 fun (f, now) hf => hframe ⟨f, now, .inl hf⟩
    exact ignoresLatch_of_no_frame hrow (fun f now hf => hframe ⟨f, now, .inr hf⟩) hset hrender hsched h

/-- R193: RENDER_DOOR_STATUS shows the latch in its frame only. -/
theorem exec_renderDoorStatus_showing {s t : State} (h : exec .renderDoorStatus s = .next t) (m : Nib) :
    t.doorOpen = s.doorOpen ∧ ∃ fs, exec .renderDoorStatus { s with doorOpen := m } = .next (t.showing m fs) := by
  cases h
  exact ⟨rfl, _, rfl⟩

/-- R264, R266: SCHED shows the latch in its frames only. -/
theorem exec_sched_showing {now : Time} {s t : State} (h : exec (.sched now) s = .next t) (m : Nib) :
    t.doorOpen = s.doorOpen ∧ ∃ fs, exec (.sched now) { s with doorOpen := m } = .next (t.showing m fs) := by
  obtain ⟨hl, rfl⟩ := (performAt_eq_next now (sched now) s t).1 h
  obtain ⟨fs, hfs⟩ := hidesLatch_sched now { s.begun with lastNow := now } m []
  exact ⟨(hidesLatch_sched now).doorOpen _, fs, (performAt_eq_next ..).2 ⟨hl, hfs.symm⟩⟩

/-- Settles O35: RENDER_DOOR_STATUS and SCHED show the latch in their frames only (`exec_renderDoorStatus_showing`,
`exec_sched_showing`); every other operation ignores it (`exec_ignoresLatch`). -/
theorem doorOpenIsOnlyShown : Obligations.DoorOpenIsOnlyShown := by
  unfold Obligations.DoorOpenIsOnlyShown
  refine fun s mask => ⟨rfl, rfl, fun i t h hset => ?_⟩
  by_cases hrender : i = .renderDoorStatus
  · subst hrender
    obtain ⟨hlatch, fs, hexec⟩ := exec_renderDoorStatus_showing h mask
    exact ⟨hlatch, _, hexec, rfl, fun hne => absurd rfl hne⟩
  by_cases hsched : ∃ now, i = .sched now
  · obtain ⟨now, rfl⟩ := hsched
    obtain ⟨hlatch, fs, hexec⟩ := exec_sched_showing h mask
    exact ⟨hlatch, _, hexec, rfl, fun _ hne => absurd rfl (hne now)⟩
  · obtain ⟨hlatch, hexec⟩ := exec_ignoresLatch hset hrender (fun now hi => hsched ⟨now, hi⟩) h
    exact ⟨hlatch, _, hexec mask, rfl, fun _ _ => rfl⟩

end Sys2Proof.Machine
end

section
/-! PROOFS. The lighting channel (44_lighting.md): what recomputation gives and that it settles (R212, R213, R216),
what an admitted command frame writes (R204 to R211), who drives the interior brightness (R207), and the operations
SET_AMBIENT, LIGHT_TICK and RENDER_LIGHT_STATUS (R215 to R218). -/

namespace Sys2Proof.Machine

/-! ## Recomputation -/

/-- R213: the hysteresis, with the strict comparisons of a lit and of an unlit output kept apart. -/
theorem autoLit_eq_litAfter (s : State) : autoLit s =
    litAfter (s.headlightOutput != .off) s.ambientSample s.cfg.onThreshold s.cfg.offThreshold := by
  unfold autoLit litAfter
  cases s.headlightOutput != .off with
  | false => simp
  | true =>
    by_cases h : s.cfg.offThreshold < s.ambientSample
    · simp [h, BitVec.not_le.2 h]
    · simp [h, BitVec.not_lt.1 h]

/-- R212: the recomputed output. -/
theorem computedOutput_eq_shownOutput (s : State) : computedOutput s =
    shownOutput s.headlightMode s.highBeam
      (litAfter (s.headlightOutput != .off) s.ambientSample s.cfg.onThreshold s.cfg.offThreshold) := by
  rw [computedOutput, autoLit_eq_litAfter]
  cases s.headlightMode with
  | off => rfl
  | on => cases s.highBeam <;> rfl
  | auto =>
    cases litAfter (s.headlightOutput != .off) s.ambientSample s.cfg.onThreshold s.cfg.offThreshold <;>
      cases s.highBeam <;> rfl

/-- R213: in `Auto` the lit bit can be read off the output. -/
@[simp] theorem shownOutput_auto_bne_off (beam lit : Bool) : (shownOutput .auto beam lit != .off) = lit := by
  cases beam <;> cases lit <;> rfl

/-- R213: in `Auto` the output is `Off` when the lit bit is. -/
theorem shownOutput_auto_eq_off_iff (beam lit : Bool) : shownOutput .auto beam lit = .off ↔ lit = false := by
  cases beam <;> cases lit <;> decide

/-- R10, R213: with ordered thresholds the hysteresis is stable under one and the same sample. -/
theorem litAfter_litAfter {on off : Byte} (h : on < off) (wasLit : Bool) (a : Byte) :
    litAfter (litAfter wasLit a on off) a on off = litAfter wasLit a on off := by
  cases wasLit with
  | false =>
    by_cases ha : a < on
    · have hoff : a ≤ off := by bv_omega
      simp [litAfter, ha, hoff]
    · simp [litAfter, ha]
  | true =>
    by_cases ha : a ≤ off
    · simp [litAfter, ha]
    · have hon : ¬ a < on := by bv_omega
      simp [litAfter, ha, hon]

/-- R214: a sample inside the closed band changes nothing. -/
theorem litAfter_of_band {a on off : Byte} (hon : on ≤ a) (hoff : a ≤ off) (wasLit : Bool) :
    litAfter wasLit a on off = wasLit := by
  have hdark : ¬ a < on := BitVec.not_lt.2 hon
  cases wasLit <;> simp [litAfter, hdark, hoff]

/-- R216: with ordered thresholds a recomputed output is what recomputation gives. -/
theorem recomputeOutput_settled {s : State} (h : s.cfg.onThreshold < s.cfg.offThreshold) :
    (recomputeOutput s).outputSettled := by
  unfold State.outputSettled
  simp only [recomputeOutput_headlightOutput, recomputeOutput_headlightMode, recomputeOutput_highBeam,
    recomputeOutput_ambientSample, recomputeOutput_cfg, computedOutput_eq_shownOutput]
  cases s.headlightMode with
  | off => rfl
  | on => cases s.highBeam <;> rfl
  | auto => rw [shownOutput_auto_bne_off, litAfter_litAfter h]

/-! ## The settled output -/

/-- R10, R216: the thresholds are ordered and the output is settled. -/
def State.settledInOrder (s : State) : Prop := s.cfg.onThreshold < s.cfg.offThreshold ∧ s.outputSettled

/-- R216 reads the lighting fields recomputation reads, and the thresholds. -/
theorem State.settledInOrder.congr {s t : State} (h : s.settledInOrder) (hcfg : t.cfg = s.cfg)
    (hmode : t.headlightMode = s.headlightMode) (hbeam : t.highBeam = s.highBeam)
    (hout : t.headlightOutput = s.headlightOutput) (hsample : t.ambientSample = s.ambientSample) :
    t.settledInOrder := by
  unfold State.settledInOrder State.outputSettled at *
  rwa [hcfg, hmode, hbeam, hout, hsample]

/-- R216: recomputation settles the output, whatever it was before. -/
theorem recomputeOutput_settledInOrder {s : State} (h : s.cfg.onThreshold < s.cfg.offThreshold) :
    (recomputeOutput s).settledInOrder := ⟨h, recomputeOutput_settled h⟩

/-- R200, R216: a lighting command ends with the recomputation. -/
theorem applyLighting_settledInOrder (c : HeadlightCmd) (m : InteriorCmd) {s : State} (h : s.settledInOrder) :
    (applyLighting c m s).settledInOrder := by
  obtain ⟨hlt, -⟩ := h
  rw [← applyLighting_cfg c m s] at hlt
  exact recomputeOutput_settledInOrder hlt

theorem reportFault_settledInOrder {s : State} (c : Byte) (now : Time) (h : s.settledInOrder) :
    (reportFault c now s).settledInOrder :=
  h.congr (reportFault_cfg ..) (reportFault_headlightMode ..) (reportFault_highBeam ..)
    (reportFault_headlightOutput ..) (reportFault_ambientSample ..)

/-- R216: every update that writes mode, flag, sample or output ends with the recomputation; the others write none
of the four, and none writes the thresholds. -/
theorem keeps_settledInOrder : Keeps State.settledInOrder where
  returning := fun _ _ h => h
  send := fun _ _ _ _ h => h
  report := fun s c _ _ h => reportFault_settledInOrder c s.lastNow h
  result := fun _ _ _ _ h => h
  accept := fun _ _ _ h _ => h
  lock := fun _ _ h => h
  lighting := fun _ c m h => applyLighting_settledInOrder c m h
  recompute := fun _ ⟨hlt, _⟩ => recomputeOutput_settledInOrder hlt
  ambient := fun _ _ ⟨hlt, _⟩ => recomputeOutput_settledInOrder hlt
  enter := fun _ _ _ _ h => h
  leave := fun _ _ h => h
  flip := fun _ _ h => h
  fast := fun _ h => h
  status := fun _ h => h
  slow := fun _ h => h
  clear := fun _ _ h => h.congr (clearFault_cfg ..) (clearFault_headlightMode ..) (clearFault_highBeam ..)
    (clearFault_headlightOutput ..) (clearFault_ambientSample ..)
  clearAll := fun _ h => h
  doorOpen := fun _ _ h => h

/-- R10: a legal configuration has ordered thresholds. -/
theorem Config.thresholds_lt_of_legal {c : Config} (h : c.legal = true) : c.onThreshold < c.offThreshold := by
  simp only [Config.legal, Bool.and_eq_true, decide_eq_true_eq] at h
  obtain ⟨⟨⟨⟨⟨⟨⟨-, hlt⟩, -⟩, -⟩, -⟩, -⟩, -⟩, -⟩ := h
  exact hlt

/-- Settles O44: a step that answers has a legal configuration (`step_eq_next`), so ordered thresholds, under which
every update keeps a settled output settled (`keeps_settledInOrder`). -/
theorem outputStaysSettled : Obligations.OutputStaysSettled := by
  unfold Obligations.OutputStaysSettled
  intro s t h hstep
  obtain ⟨hlegal, -⟩ := (step_eq_next s t).1 hstep
  obtain ⟨-, hsettled⟩ := keeps_settledInOrder.step (fun u c _ hu => reportFault_settledInOrder c u.lastNow hu)
    (fun _ hu => hu) (fun _ _ hu => hu) (fun _ _ hu _ => hu) ⟨Config.thresholds_lt_of_legal hlegal, h⟩ hstep
  exact hsettled

/-! ## Command frames -/

/-- R204 to R211: `s` after an accepted lighting frame that carries the sub-commands `c` and `m`. -/
def State.lightingDone (s : State) (c : HeadlightCmd) (m : InteriorCmd) (ctr : Nib) (now : Time) : State :=
  { s.acceptedOn .light ctr now with
    headlightMode := (applyHeadlight c s).headlightMode, highBeam := (applyHeadlight c s).highBeam
    headlightOutput := shownOutput (applyHeadlight c s).headlightMode (applyHeadlight c s).highBeam
      (litAfter (s.headlightOutput != .off) s.ambientSample s.cfg.onThreshold s.cfg.offThreshold)
    interiorMode := (applyInterior m s).interiorMode
    interiorBrightness := (applyInterior m s).interiorBrightness }

/-- R167, R200: a row of the lighting channel whose admitted frame carries two legal sub-commands completes with the
accept bookkeeping and both applied. -/
theorem exec_lightRow_accept {i : Instr} {s : State} {op interior ck : Byte} {ver ctr : Nib} {now : Time}
    {c : HeadlightCmd} {m : InteriorCmd} (hrow : i.frame? = some (⟨0x110, [op, interior, ver ++ ctr, ck]⟩, now))
    (hl : s.lastNow ≤ now) (hadmits : s.admits .light op interior ver ctr ck)
    (hc : headlightCmd op = some c) (hm : interiorCmd interior = some m) :
    exec i s = .next (s.lightingDone c m ctr now) := by
  have hsteps : channelSteps now .light op interior (s.atTime now) = .applied (applyLighting c m (s.atTime now)) := by
    change lightSteps op interior _ = _
    rw [lightSteps, hc, hm]
  rw [frameRowMeansRouteOfItsFrame i _ now s hrow]
  refine (exec_route_accept (ch := .light) hl hadmits hsteps).trans ?_
  rw [applyLighting, recomputeOutput, computedOutput_eq_shownOutput]
  cases c <;> cases m <;> rfl

/-- R89: the interior mode bits as a number. -/
theorem toNat_interiorModeBits (b : Byte) : (interiorModeBits b).toNat = b.toNat % 4 := by
  rw [interiorModeBits, BitVec.extractLsb'_toNat, Nat.shiftRight_zero]

/-- R89: the brightness nibble as a number. -/
theorem interiorBrightnessBits_eq_ofNat (b : Byte) :
    interiorBrightnessBits b = BitVec.ofNat 4 (b.toNat / 16) := by
  rw [interiorBrightnessBits, BitVec.extractLsb', Nat.shiftRight_eq_div_pow]

/-- R205 to R207: what a legal interior byte makes of the interior mode and of the brightness. -/
theorem applyInterior_of_ne {b : Byte} (h : b.toNat % 4 ≠ 3) (s : State) : ∃ m, interiorCmd b = some m ∧
    (applyInterior m s).interiorMode =
      (if b.toNat % 4 = 0 then .off else if b.toNat % 4 = 1 then .on else .auto) ∧
    (applyInterior m s).interiorBrightness =
      (if b.toNat % 4 = 0 then 0 else if b.toNat % 4 = 1 then BitVec.ofNat 4 (b.toNat / 16)
        else s.interiorBrightness) := by
  have hbits := toNat_interiorModeBits b
  obtain h0 | h1 | h2 : b.toNat % 4 = 0 ∨ b.toNat % 4 = 1 ∨ b.toNat % 4 = 2 := by omega
  · have hmode : interiorModeBits b = codeIntOff := BitVec.eq_of_toNat_eq (hbits.trans h0)
    exact ⟨.off, by rw [interiorCmd, hmode]; rfl, by rw [if_pos h0]; rfl, by rw [if_pos h0]; rfl⟩
  · have hmode : interiorModeBits b = codeIntOn := BitVec.eq_of_toNat_eq (hbits.trans h1)
    refine ⟨.on (interiorBrightnessBits b), by rw [interiorCmd, hmode]; rfl, by rw [h1]; rfl, ?_⟩
    rw [h1, ← interiorBrightnessBits_eq_ofNat]; rfl
  · have hmode : interiorModeBits b = codeIntAuto := BitVec.eq_of_toNat_eq (hbits.trans h2)
    exact ⟨.auto, by rw [interiorCmd, hmode]; rfl, by rw [h2]; rfl, by rw [h2]; rfl⟩

/-- R204, R208 to R211: what a legal headlight code makes of the mode and of the high-beam flag. -/
theorem applyHeadlight_of_le {b : Byte} (h : b.toNat ≤ 4) (s : State) : ∃ c, headlightCmd b = some c ∧
    (applyHeadlight c s).headlightMode =
      (if b.toNat = 0 then .off else if b.toNat = 1 then .on else if b.toNat = 2 then .auto
        else s.headlightMode) ∧
    (applyHeadlight c s).highBeam =
      (if b.toNat = 3 then true else if b.toNat = 4 then false else s.highBeam) := by
  obtain rfl | rfl | rfl | rfl | rfl := byte_le_four h <;> exact ⟨_, rfl, rfl, rfl⟩

/-- Settles O36: every row spells its headlight sub-command, its frame is accepted (`exec_lightRow_accept`), and the
interior byte means what `applyInterior_of_ne` says. -/
theorem headlightCommandsSetModeAndFlag : Obligations.HeadlightCommandsSetModeAndFlag := by
  unfold Obligations.HeadlightCommandsSetModeAndFlag
  intro s interior ck ver ctr now hl hlegal
  obtain ⟨m, hm, hmode, hbri⟩ := applyInterior_of_ne hlegal s
  rw [← hmode, ← hbri]
  exact ⟨rfl,
    fun hadmits => exec_lightRow_accept (c := .off) rfl hl hadmits rfl hm,
    fun hadmits => exec_lightRow_accept (c := .on) rfl hl hadmits rfl hm,
    fun hadmits => exec_lightRow_accept (c := .auto) rfl hl hadmits rfl hm,
    fun hadmits => exec_lightRow_accept (c := .highOn) rfl hl hadmits rfl hm,
    fun hadmits => exec_lightRow_accept (c := .highOff) rfl hl hadmits rfl hm⟩

/-- Settles O37: every row spells its interior sub-command, its frame is accepted (`exec_lightRow_accept`), and the
headlight byte means what `applyHeadlight_of_le` says. -/
theorem interiorCommandsSetModeAndBrightness : Obligations.InteriorCommandsSetModeAndBrightness := by
  unfold Obligations.InteriorCommandsSetModeAndBrightness
  intro s headlight ck bri ign ver ctr now hl hlegal
  obtain ⟨c, hc, hmode, hbeam⟩ := applyHeadlight_of_le hlegal s
  rw [← hmode, ← hbeam]
  exact ⟨rfl,
    fun hadmits => exec_lightRow_accept rfl hl hadmits hc (interiorCmd_off bri ign),
    fun hadmits => exec_lightRow_accept rfl hl hadmits hc (interiorCmd_on bri ign),
    fun hadmits => exec_lightRow_accept rfl hl hadmits hc (interiorCmd_auto bri ign)⟩

/-! ## Who drives the brightness -/

/-- R207: an interior sub-command that ends in `Auto` from `Auto` leaves the brightness. -/
theorem applyLighting_brightness_of_auto {c : HeadlightCmd} {m : InteriorCmd} {s : State}
    (h : (applyLighting c m s).interiorMode = .auto) :
    (applyLighting c m s).interiorBrightness = s.interiorBrightness := by
  cases m with
  | off => cases h
  | on bri => cases h
  | auto => cases c <;> rfl

/-- R207: whatever frame ROUTE brings, the brightness is as before where the interior mode ends in `Auto`. -/
theorem routeFrame_brightness_of_auto {f : Frame} {now : Time} {s : State}
    (h : (routeFrame f now s).interiorMode = .auto) :
    (routeFrame f now s).interiorBrightness = s.interiorBrightness := by
  by_cases hid : f.id = Channel.light.ident
  case pos =>
    rw [routeFrame_of_ident hid] at h ⊢
    rcases handle_cases .light f now (channelSteps now .light) s with ⟨res, fc, e⟩ | ⟨op, arg, ctr, u, hu, e⟩ <;>
      rw [e] at h ⊢
    · exact reject_interiorBrightness ..
    · obtain ⟨c, m, rfl⟩ := lightSteps_applied hu
      exact applyLighting_brightness_of_auto h
  case neg =>
    obtain ⟨-, -, -, -, hbri⟩ := (confined_routeFrame f now s).light hid
    exact hbri

@[simp] theorem lightTick_interiorBrightness (now : Time) (s : State) :
    (lightTick now s).interiorBrightness = s.interiorBrightness := by
  unfold lightTick
  split
  · exact reportFault_interiorBrightness ..
  · rfl

@[simp] theorem turnTick_interiorBrightness (now : Time) (s : State) :
    (turnTick now s).interiorBrightness = s.interiorBrightness := by
  unfold turnTick
  split <;> rfl

@[simp] theorem checkTimeout_interiorBrightness (now : Time) (s : State) :
    (checkTimeout now s).interiorBrightness = s.interiorBrightness := by
  unfold checkTimeout
  split
  · exact reportFault_interiorBrightness ..
  · rfl

@[simp] theorem fastTrigger_interiorBrightness (now : Time) (s : State) :
    (fastTrigger now s).interiorBrightness = s.interiorBrightness := by
  unfold fastTrigger
  split
  · rw [turnTick_interiorBrightness, lightTick_interiorBrightness, doorTick_interiorBrightness]
  · rfl

@[simp] theorem statusTrigger_interiorBrightness (now : Time) (s : State) :
    (statusTrigger now s).interiorBrightness = s.interiorBrightness := by
  unfold statusTrigger
  split <;> rfl

@[simp] theorem slowTrigger_interiorBrightness (now : Time) (s : State) :
    (slowTrigger now s).interiorBrightness = s.interiorBrightness := by
  unfold slowTrigger
  split
  · exact checkTimeout_interiorBrightness ..
  · rfl

/-- R207, R264: none of the operations a SCHED invokes drives the brightness. -/
@[simp] theorem sched_interiorBrightness (now : Time) (s : State) :
    (sched now s).interiorBrightness = s.interiorBrightness := by
  rw [sched, slowTrigger_interiorBrightness, statusTrigger_interiorBrightness, fastTrigger_interiorBrightness]

theorem perform_interiorBrightness {f : State → State} {s t : State} (h : perform f s = .next t)
    (hf : ∀ u, (f u).interiorBrightness = u.interiorBrightness) : t.interiorBrightness = s.interiorBrightness := by
  obtain rfl := (perform_eq_next ..).1 h
  exact hf _

theorem performAt_interiorBrightness {now : Time} {f : State → State} {s t : State}
    (h : performAt now f s = .next t) (hf : ∀ u, (f u).interiorBrightness = u.interiorBrightness) :
    t.interiorBrightness = s.interiorBrightness := by
  obtain ⟨-, rfl⟩ := (performAt_eq_next ..).1 h
  exact hf _

/-- R207: an operation that brings no frame does not drive the brightness, whatever the interior mode. -/
theorem exec_interiorBrightness_of_no_frame {i : Instr} {s t : State} (hrow : i.frame? = none)
    (hroute : ∀ f now, i ≠ .route f now) (h : exec i s = .next t) :
    t.interiorBrightness = s.interiorBrightness := by
  cases i with
  | route f now => exact absurd rfl (hroute f now)
  | sched now => exact performAt_interiorBrightness h (sched_interiorBrightness now)
  | lightTick now => exact performAt_interiorBrightness h (lightTick_interiorBrightness now)
  | turnTick now => exact performAt_interiorBrightness h (turnTick_interiorBrightness now)
  | checkTimeout now => exact performAt_interiorBrightness h (checkTimeout_interiorBrightness now)
  | setAmbient | renderHeartbeat => exact performAt_interiorBrightness h (fun _ => rfl)
  | faultReport code now =>
    have hc : code ≠ 0 := by rintro rfl; cases h
    exact performAt_interiorBrightness ((if_neg hc).symm.trans h) (reportFault_interiorBrightness code now)
  | faultClear code => exact perform_interiorBrightness h (clearFault_interiorBrightness code)
  | checksum bytes =>
    obtain ⟨r, hr⟩ := onlyReturns_checksum h
    exact perform_interiorBrightness ((hr s).symm.trans h) fun _ => rfl
  | validateChecksum claimed bytes =>
    obtain ⟨r, hr⟩ := onlyReturns_validateChecksum h
    exact perform_interiorBrightness ((hr s).symm.trans h) fun _ => rfl
  | doorTick | setDoorOpen | renderDoorStatus | renderLightStatus | renderTurnStatus | renderFaultStatus |
    faultClearAll | faultIsActive | faultCount | faultFlags | faultMostRecent | buildVc | extractVersion |
    extractCounter | validateCounter =>
    cases h
    rfl
  | _ => cases hrow

/-- Settles O38: the row is that of O37; an operation that brings a frame means ROUTE of it, which leaves the
brightness where it ends in `Auto` (`routeFrame_brightness_of_auto`), and any other leaves it in every mode
(`exec_interiorBrightness_of_no_frame`). -/
theorem autoLeavesTheBrightness : Obligations.AutoLeavesTheBrightness := by
  unfold Obligations.AutoLeavesTheBrightness
  refine ⟨fun s headlight ck bri ign ver ctr now hl hlegal hadmits => ?row, fun i s t h _ hauto => ?drives⟩
  case row =>
    obtain ⟨c, hc, -⟩ := applyHeadlight_of_le hlegal s
    exact ⟨rfl, _, exec_lightRow_accept rfl hl hadmits hc (interiorCmd_auto bri ign), rfl, rfl⟩
  case drives =>
    by_cases hframe : ∃ f now, StandsFor i f now
    · obtain ⟨f, now, hf⟩ := hframe
      obtain ⟨-, -, rfl⟩ := (exec_route_eq_next ..).1 ((hf.exec_eq s).symm.trans h)
      exact routeFrame_brightness_of_auto hauto
    · have hrow : i.frame? = none :=
        Option.eq_none_iff_forall_ne_some.2 fun (f, now) hf => hframe ⟨f, now, .inl hf⟩
      exact exec_interiorBrightness_of_no_frame hrow (fun f now hf => hframe ⟨f, now, .inr hf⟩) h

/-! ## SET_AMBIENT -/

/-- R215: SET_AMBIENT at a time not below the last one. -/
theorem exec_setAmbient {s : State} {now : Time} (hl : s.lastNow ≤ now) (level : Byte) :
    exec (.setAmbient level now) s = .next { s.atTime now with
      ambientSample := level, ambientTime := now
      headlightOutput := shownOutput s.headlightMode s.highBeam
        (litAfter (s.headlightOutput != .off) level s.cfg.onThreshold s.cfg.offThreshold) } := by
  refine (performAt_of_le hl _).trans ?_
  rw [setAmbient, recomputeOutput, computedOutput_eq_shownOutput]
  rfl

/-- Settles O39: by `exec_setAmbient`. -/
theorem setAmbientRecomputesTheOutput : Obligations.SetAmbientRecomputesTheOutput := by
  unfold Obligations.SetAmbientRecomputesTheOutput
  exact fun s level now hl => ⟨rfl, exec_setAmbient hl level⟩

/-- R213, R214: a sample inside the band leaves an auto headlight lit or unlit, and changes nothing the next sample
depends on. -/
theorem exec_setAmbient_of_band {s : State} {a : Byte} (hauto : s.headlightMode = .auto)
    (hon : s.cfg.onThreshold ≤ a) (hoff : a ≤ s.cfg.offThreshold) :
    ∃ t, exec (.setAmbient a s.lastNow) s = .next t ∧ t.headlightMode = .auto ∧ t.cfg = s.cfg ∧
      t.lastNow = s.lastNow ∧ (t.headlightOutput = .off ↔ s.headlightOutput = .off) := by
  refine ⟨_, exec_setAmbient (BitVec.le_refl _) a, hauto, rfl, rfl, ?_⟩
  rw [hauto, litAfter_of_band hon hoff, shownOutput_auto_eq_off_iff, bne_eq_false_iff_eq]

/-- Settles O40: by induction on the samples, each of which keeps the output `Off` or not
(`exec_setAmbient_of_band`). -/
theorem hysteresisBandDoesNotChatter : Obligations.HysteresisBandDoesNotChatter := by
  unfold Obligations.HysteresisBandDoesNotChatter
  intro s levels hauto hband
  induction levels generalizing s with
  | nil => exact ⟨s, [], rfl, Iff.rfl⟩
  | cons a levels ih =>
    obtain ⟨⟨hon, hoff⟩, hrest⟩ := List.forall_mem_cons.1 hband
    obtain ⟨t, hexec, htauto, hcfg, hnow, hfirst⟩ := exec_setAmbient_of_band hauto hon hoff
    obtain ⟨u, fs, hrun, hlast⟩ := ih t htauto (hcfg ▸ hrest)
    rw [hnow] at hrun
    exact ⟨u, _, performAll_cons hexec hrun, hlast.trans hfirst⟩

/-! ## LIGHT_TICK -/

/-- R141, R212: a report writes nothing recomputation reads, and the other way round. -/
theorem recomputeOutput_reportFault (c : Byte) (now : Time) (s : State) :
    recomputeOutput (reportFault c now s) = reportFault c now (recomputeOutput s) := by
  unfold reportFault
  rw [apply_ite recomputeOutput, apply_ite recomputeOutput]
  rfl

/-- Settles O41: the report may be made after the recomputation (`recomputeOutput_reportFault`), which writes the
output a settled state already has. -/
theorem lightTickReportsAStaleSensor : Obligations.LightTickReportsAStaleSensor := by
  unfold Obligations.LightTickReportsAStaleSensor
  intro s now hl
  refine ⟨rfl, ?exec, ?settled⟩
  case exec =>
    refine (performAt_of_le hl _).trans ?_
    rw [lightTick, recomputeOutput_reportFault, recomputeOutput, computedOutput_eq_shownOutput]
    rfl
  case settled =>
    intro h
    unfold State.outputSettled at h
    rw [← h]
    rfl

/-! ## RENDER_LIGHT_STATUS -/

/-- R92: byte 1 of the lighting status as a number. -/
theorem toNat_interiorStatusByte (bri : Nib) (mode : BitVec 2) :
    (interiorStatusByte bri mode).toNat = bri.toNat * 4 + mode.toNat := by
  have hpad : (0#2 ++ bri).toNat = bri.toNat := (BitVec.toNat_append 0#2 bri).trans (by simp)
  rw [interiorStatusByte, BitVec.toNat_append, ← Nat.shiftLeft_add_eq_or_of_lt mode.isLt, Nat.shiftLeft_eq, hpad]

/-- Settles O42: the frame is the one `sendFrame` builds; its first two bytes are `headlightOutputCode` and
`toNat_interiorStatusByte`. -/
theorem lightStatusShowsTheLights : Obligations.LightStatusShowsTheLights := by
  unfold Obligations.LightStatusShowsTheLights
  refine ⟨rfl, fun s => ⟨headlightOutputCode s.headlightOutput,
    interiorStatusByte s.interiorBrightness (interiorModeCode s.interiorMode), _, _, rfl, ?output, ?interior,
    rfl, rfl⟩⟩
  case output => cases s.headlightOutput <;> rfl
  case interior =>
    rw [toNat_interiorStatusByte]
    cases s.interiorMode <;> rfl

end Sys2Proof.Machine
end

section
/-! PROOFS. The turn-signal channel (45_turn.md): the transition table of the turn commands (R232 to R239), what
leaves `Hazard` (R240), and the operations TURN_TICK, CHECK_TIMEOUT and RENDER_TURN_STATUS (R242 to R247). -/

namespace Sys2Proof.Machine

/-! ## The transition table -/

/-- R239, column TURN.OFF. -/
theorem applyTurnOff_eq (s : State) :
    applyTurnOff s = if s.turnMode = .left ∨ s.turnMode = .right then enterOff s else s := by
  unfold applyTurnOff
  cases s.turnMode <;> rfl

/-- R239, column TURN.LEFT. -/
theorem applyTurnLeft_eq (now : Time) (s : State) :
    applyTurnLeft now s = if s.turnMode = .off ∨ s.turnMode = .right then enterTurn .left now s else s := by
  unfold applyTurnLeft
  cases s.turnMode <;> rfl

/-- R239, column TURN.RIGHT. -/
theorem applyTurnRight_eq (now : Time) (s : State) :
    applyTurnRight now s = if s.turnMode = .off ∨ s.turnMode = .left then enterTurn .right now s else s := by
  unfold applyTurnRight
  cases s.turnMode <;> rfl

/-- R239, column TURN.HAZARD_ON. -/
theorem applyHazardOn_eq (now : Time) (s : State) :
    applyHazardOn now s = if s.turnMode = .hazard then s else enterTurn .hazard now s := by
  unfold applyHazardOn
  cases s.turnMode <;> rfl

/-- R239, column TURN.HAZARD_OFF. -/
theorem applyHazardOff_eq (s : State) :
    applyHazardOff s = if s.turnMode = .hazard then enterOff s else s := by
  unfold applyHazardOff
  cases s.turnMode <;> rfl

/-- R167, R230: a row of the turn channel whose admitted frame carries a turn command completes with the accept
bookkeeping on top of the command's cell of the table, whatever its reserved byte. -/
theorem exec_turnRow_accept {i : Instr} {s u v : State} {op rsv ck : Byte} {ver ctr : Nib} {now : Time} {c : TurnCmd}
    {p : Prop} [Decidable p] (hrow : i.frame? = some (⟨0x120, [op, rsv, ver ++ ctr, ck]⟩, now))
    (hl : s.lastNow ≤ now) (hadmits : s.admits .turn op rsv ver ctr ck) (hc : turnCmd op = some c)
    (hcell : applyTurn c now (s.atTime now) = if p then u else v) :
    exec i s = .next (if p then accept .turn ctr now u else accept .turn ctr now v) := by
  have hsteps : channelSteps now .turn op rsv (s.atTime now) = .applied (applyTurn c now (s.atTime now)) := by
    change turnSteps now op rsv _ = _
    rw [turnSteps, hc]
  rw [frameRowMeansRouteOfItsFrame i _ now s hrow, ← apply_ite (accept .turn ctr now), ← hcell]
  exact exec_route_accept (ch := .turn) hl hadmits hsteps

/-- Settles O45: every row spells its command and is accepted (`exec_turnRow_accept`) with the command's column of the
table (`applyTurnOff_eq` to `applyHazardOff_eq`). -/
theorem turnCommandsFollowTheTable : Obligations.TurnCommandsFollowTheTable := by
  unfold Obligations.TurnCommandsFollowTheTable
  intro s rsv ck ver ctr now hl
  exact ⟨rfl,
    fun hadmits => exec_turnRow_accept rfl hl hadmits rfl (applyTurnOff_eq (s.atTime now)),
    fun hadmits => exec_turnRow_accept rfl hl hadmits rfl (applyTurnLeft_eq now (s.atTime now)),
    fun hadmits => exec_turnRow_accept rfl hl hadmits rfl (applyTurnRight_eq now (s.atTime now)),
    fun hadmits => exec_turnRow_accept rfl hl hadmits rfl (applyHazardOn_eq now (s.atTime now)),
    fun hadmits => exec_turnRow_accept rfl hl hadmits rfl (applyHazardOff_eq (s.atTime now))⟩

/-! ## Leaving Hazard -/

/-- R239, row `Hazard`: a turn command keeps the mode or leaves it for `Off`. -/
theorem applyTurn_of_hazard {s : State} (h : s.turnMode = .hazard) (c : TurnCmd) (now : Time) :
    (applyTurn c now s).turnMode = .hazard ∨ (applyTurn c now s).turnMode = .off := by
  cases c with
  | off => simp [applyTurn, applyTurnOff_eq, h]
  | left => simp [applyTurn, applyTurnLeft_eq, h]
  | right => simp [applyTurn, applyTurnRight_eq, h]
  | hazardOn => simp [applyTurn, applyHazardOn_eq, h]
  | hazardOff => simp [applyTurn, applyHazardOff_eq, h]

/-- R239, R260: from `Hazard`, ROUTE of a frame for the turn channel ends in `Hazard` or in `Off`. -/
theorem routeFrame_of_hazard {f : Frame} {s : State} (hid : f.id = Channel.turn.ident) (h : s.turnMode = .hazard)
    (now : Time) : (routeFrame f now s).turnMode = .hazard ∨ (routeFrame f now s).turnMode = .off := by
  rw [routeFrame_of_ident hid]
  rcases handle_cases .turn f now (channelSteps now .turn) s with ⟨res, fc, e⟩ | ⟨op, arg, ctr, u, hu, e⟩ <;> rw [e]
  · exact .inl ((reject_turnMode ..).trans h)
  · obtain ⟨c, rfl⟩ := turnSteps_applied (arg := arg) hu
    exact applyTurn_of_hazard h c now

/-- R237: the two forms of an operation that brings a TURN.HAZARD_OFF. -/
theorem forms_of_bringsHazardOff {i : Instr} (h : bringsHazardOff i) :
    (∃ rsv ver ctr ck now, i = .turnHazardOff rsv ver ctr ck now) ∨
    (∃ rsv vc ck now, i = .route ⟨0x120, [4, rsv, vc, ck]⟩ now) := by
  cases i with
  | turnHazardOff rsv ver ctr ck now => exact .inl ⟨rsv, ver, ctr, ck, now, rfl⟩
  | route f now =>
    obtain ⟨rsv, vc, ck, rfl⟩ := h
    exact .inr ⟨rsv, vc, ck, now, rfl⟩
  | _ => cases h

/-- R95, R237: what brings a TURN.HAZARD_OFF stands for a frame of the turn channel. -/
theorem standsFor_of_bringsHazardOff {i : Instr} (h : bringsHazardOff i) :
    ∃ f now, f.id = Channel.turn.ident ∧ StandsFor i f now := by
  obtain ⟨rsv, ver, ctr, ck, now, rfl⟩ | ⟨rsv, vc, ck, now, rfl⟩ := forms_of_bringsHazardOff h
  · exact ⟨_, now, rfl, .inl rfl⟩
  · exact ⟨_, now, rfl, .inr rfl⟩

/-- R240, R246: the updates that enter or leave a mode are not made in `Hazard`, and no other writes the mode. -/
theorem keeps_hazard : Keeps (fun s => s.turnMode = .hazard) where
  returning := fun _ _ h => h
  send := fun _ _ _ _ h => h
  report := fun _ _ _ _ h => (reportFault_turnMode ..).trans h
  result := fun _ _ _ _ h => h
  accept := fun _ _ _ h _ => h
  lock := fun _ _ h => h
  lighting := fun s c m h => (congrArg State.turnMode (applyLighting_frame c m s)).trans h
  recompute := fun _ h => h
  ambient := fun _ _ h => h
  enter := fun _ _ _ hne h => absurd h hne
  leave := fun _ hne h => absurd h hne
  flip := fun _ _ h => h
  fast := fun _ h => h
  status := fun _ h => h
  slow := fun _ h => h
  clear := fun _ _ h => (clearFault_turnMode ..).trans h
  clearAll := fun _ h => h
  doorOpen := fun _ _ h => h

/-- Settles O46: an operation that brings no TURN.HAZARD_OFF is made of updates that keep `Hazard` (`keeps_hazard`);
one that does means ROUTE of its frame, which ends in `Hazard` or in `Off` (`routeFrame_of_hazard`). -/
theorem hazardIsSticky : Obligations.HazardIsSticky := by
  unfold Obligations.HazardIsSticky
  intro i s t h hs ht
  by_cases hoff : bringsHazardOff i
  case pos =>
    obtain ⟨f, now, hid, hf⟩ := standsFor_of_bringsHazardOff hoff
    obtain ⟨-, -, rfl⟩ := (exec_route_eq_next ..).1 ((hf.exec_eq s).symm.trans h)
    have hends := routeFrame_of_hazard (s := s.atTime now) hid hs now
    exact ⟨hends.resolve_left ht, forms_of_bringsHazardOff hoff⟩
  case neg =>
    have hkept : t.turnMode = .hazard :=
      keeps_hazard.exec (fun _ _ _ _ _ hu => (reportFault_turnMode ..).trans hu) (fun hb => absurd hb hoff)
        (fun _ _ => hs) h
    exact absurd hkept ht

/-! ## TURN_TICK -/

/-- R242: the duration of the phase, `Hazard` apart from the directions. -/
theorem flashThreshold_eq (s : State) : flashThreshold s =
    if s.turnMode = .hazard then (if s.lampOn then s.cfg.hazOnMs else s.cfg.hazOffMs)
    else (if s.lampOn then s.cfg.turnOnMs else s.cfg.turnOffMs) := by
  unfold flashThreshold
  cases s.turnMode <;> rfl

/-- R243: the flash count goes up modulo 256. -/
theorem byte_succ_eq_ofNat (b : Byte) : b + 1 = BitVec.ofNat 8 ((b.toNat + 1) % 256) := by
  apply BitVec.eq_of_toNat_eq
  rw [BitVec.toNat_add, BitVec.toNat_ofNat, Nat.mod_mod]
  rfl

/-- Settles O47: the phase's duration is `flashThreshold_eq`, and a flip counts by `byte_succ_eq_ofNat`. -/
theorem turnTickFlipsOnce : Obligations.TurnTickFlipsOnce := by
  unfold Obligations.TurnTickFlipsOnce
  intro s now hl
  refine ⟨rfl, (performAt_of_le hl _).trans ?_⟩
  rw [turnTick, flashThreshold_eq, flipLamp, byte_succ_eq_ofNat]
  rfl

/-! ## CHECK_TIMEOUT -/

/-- Settles O48: CHECK_TIMEOUT at a time not below the last one, its report made on the state in `Off`. -/
theorem checkTimeoutCancelsAnIdleDirection : Obligations.CheckTimeoutCancelsAnIdleDirection := by
  unfold Obligations.CheckTimeoutCancelsAnIdleDirection
  intro s now hl
  refine ⟨rfl, (performAt_of_le hl _).trans ?_⟩
  rw [checkTimeout]
  rfl

/-! ## RENDER_TURN_STATUS -/

/-- R31: the left lamp is lit with the lamp bit in `Left` and `Hazard`. -/
theorem leftLit_eq (m : TurnMode) (lampOn : Bool) :
    leftLit m lampOn = (lampOn && decide (m = .left ∨ m = .hazard)) := by
  cases m <;> simp [leftLit]

/-- R31: the right lamp is lit with the lamp bit in `Right` and `Hazard`. -/
theorem rightLit_eq (m : TurnMode) (lampOn : Bool) :
    rightLit m lampOn = (lampOn && decide (m = .right ∨ m = .hazard)) := by
  cases m <;> simp [rightLit]

/-- R91: the upper six bits of the lamp mask are 0. -/
theorem lampMask_lt (m : TurnMode) (lampOn : Bool) : (lampMask m lampOn).toNat < 4 := by
  cases m <;> cases lampOn <;> decide

/-- Settles O49: the frame is the one `sendFrame` builds; bits 0 and 1 of its lamp mask (`getLsbD_maskByte`) are the
lamp outputs `leftLit_eq` and `rightLit_eq`. -/
theorem turnStatusShowsTheLamps : Obligations.TurnStatusShowsTheLamps := by
  unfold Obligations.TurnStatusShowsTheLamps
  refine ⟨rfl, fun s => ?_⟩
  obtain ⟨hleft, hright, -, -⟩ :=
    getLsbD_maskByte (leftLit s.turnMode s.lampOn) (rightLit s.turnMode s.lampOn) false false
  refine ⟨turnModeCode s.turnMode, lampMask s.turnMode s.lampOn, _, _, rfl, ?mode,
    hleft.trans (leftLit_eq ..), hright.trans (rightLit_eq ..), lampMask_lt .., rfl, rfl⟩
  case mode => cases s.turnMode <;> rfl

end Sys2Proof.Machine
end

section
/-! PROOFS. The dispatcher and the scheduler (46_dispatcher_scheduler.md): which inbound frames are ignored (R261), the
fault-status and heartbeat frames (R268 to R270), what a SCHED performs (R262 to R267, R271), and which frames an
operation transmits with which counters (R36, R274). -/

namespace Sys2Proof.Machine

/-! ## Transmitted frames -/

/-- R63: no two TX channels share an identifier. -/
theorem TxChannel.ident_injective : Function.Injective TxChannel.ident := by
  intro ch ch' h
  revert h
  cases ch <;> cases ch' <;> decide

/-- R274: from `s` to `t` one sound frame was emitted on each channel of `chs`, in that order, with the counter the
channel had in `s`; these counters were stepped, once each, and no other. -/
def Transmits (chs : List TxChannel) (s t : State) : Prop :=
  chs.Nodup ∧ t.txCtr = chs.foldl TxCtrs.bump s.txCtr ∧
  ∃ fs, t.out.frames = s.out.frames ++ fs ∧ List.Forall₂ (fun ch f => soundFrame f ch (s.txCtr.get ch)) chs fs

/-- R274: each step adds 1 modulo 16 to the counter of its own channel. -/
theorem toNat_get_foldl_bump (chs : List TxChannel) (c : TxCtrs) (ch : TxChannel) :
    ((chs.foldl TxCtrs.bump c).get ch).toNat = ((c.get ch).toNat + chs.count ch) % 16 := by
  induction chs generalizing c with
  | nil => exact (Nat.mod_eq_of_lt (c.get ch).isLt).symm
  | cons a chs ih =>
    rw [List.foldl_cons, ih]
    by_cases h : ch = a
    · subst h
      have hstep : (c.get ch + 1).toNat = ((c.get ch).toNat + 1) % 16 := BitVec.toNat_add ..
      rw [TxCtrs.get_bump_same, hstep, List.count_cons_self]
      omega
    · rw [TxCtrs.get_bump_ne c h, List.count_cons_of_ne (Ne.symm h)]

/-- R274: a channel that sent nothing keeps its counter. -/
theorem Transmits.get_txCtr {chs : List TxChannel} {s t : State} (h : Transmits chs s t) {ch : TxChannel}
    (hch : ch ∉ chs) : t.txCtr.get ch = s.txCtr.get ch := by
  obtain ⟨-, hctr, -⟩ := h
  apply BitVec.eq_of_toNat_eq
  rw [hctr, toNat_get_foldl_bump, List.count_eq_zero_of_not_mem hch]
  exact Nat.mod_eq_of_lt (s.txCtr.get ch).isLt

/-- R67, R274: what is sent by one change of state and then by another on other channels. -/
theorem Transmits.trans {chs chs' : List TxChannel} {s t u : State} (h : Transmits chs s t)
    (h' : Transmits chs' t u) (hdisj : chs.Disjoint chs') : Transmits (chs ++ chs') s u := by
  have hkept : ∀ ch ∈ chs', t.txCtr.get ch = s.txCtr.get ch := fun ch hch => h.get_txCtr fun hm => hdisj hm hch
  obtain ⟨hnodup, hctr, fs, hfs, hsound⟩ := h
  obtain ⟨hnodup', hctr', fs', hfs', hsound'⟩ := h'
  refine ⟨hnodup.append hnodup' hdisj, ?_, fs ++ fs', ?_, ?_⟩
  · rw [hctr', hctr, List.foldl_append]
  · rw [hfs', hfs, List.append_assoc]
  · refine List.rel_append hsound ?_
    have hsame := (List.forall₂_and_left chs' fs').2 ⟨hkept, hsound'⟩
    exact hsame.imp fun ch f ⟨hctr, hf⟩ => hctr ▸ hf

/-- R274: an update that emits nothing and leaves the counters alone. -/
theorem transmits_nothing {s t : State} (hctr : t.txCtr = s.txCtr) (hout : t.out.frames = s.out.frames) :
    Transmits [] s t :=
  ⟨List.nodup_nil, hctr, [], by rw [hout, List.append_nil], .nil⟩

/-- R274: the transmit tail sends one frame of its channel. -/
theorem transmits_sendFrame (ch : TxChannel) {b : List Byte} (hlen : b.length + 2 = ch.length) (s : State) :
    Transmits [ch] s (sendFrame ch ch.ident b s) := by
  refine ⟨List.nodup_singleton ch, rfl, _, rfl, .cons ⟨b, ?_, hlen⟩ .nil⟩
  rw [List.append_assoc]
  rfl

/-- R274: on each channel at most one frame was sent, a sound one. -/
theorem Transmits.sound {chs : List TxChannel} {s t : State} (h : Transmits chs s.begun t) {f : Frame}
    (hf : f ∈ t.out.frames) : ∃ ch, soundFrame f ch (s.txCtr.get ch) := by
  obtain ⟨-, -, fs, hfs, hsound⟩ := h
  obtain rfl : t.out.frames = fs := hfs
  obtain ⟨n, hn, rfl⟩ := List.getElem_of_mem hf
  exact ⟨_, hsound.get (hsound.length_eq ▸ hn) hn⟩

/-- R36, R274: the frames with a channel's identifier are as many as the channel sent. -/
theorem Transmits.length_filter {chs : List TxChannel} {s t : State} (h : Transmits chs s.begun t) (ch : TxChannel) :
    (t.out.frames.filter (fun f => f.id == ch.ident)).length = chs.count ch := by
  obtain ⟨-, -, fs, hfs, hsound⟩ := h
  obtain rfl : t.out.frames = fs := hfs
  have hids : chs.map TxChannel.ident = t.out.frames.map Frame.id := by
    rw [← List.forall₂_eq_eq_eq, List.forall₂_map_left_iff, List.forall₂_map_right_iff]
    refine hsound.imp fun ch f hf => ?_
    obtain ⟨body, rfl, -⟩ := hf
    rfl
  rw [← List.countP_eq_length_filter, ← List.count_map_of_injective chs _ TxChannel.ident_injective, hids,
    List.count, List.countP_map]
  rfl

/-- R36: no operation sends more than one frame on each of the five channels. -/
theorem Transmits.length_le {chs : List TxChannel} {s t : State} (h : Transmits chs s.begun t) :
    t.out.frames.length ≤ 5 := by
  obtain ⟨hnodup, -, fs, hfs, hsound⟩ := h
  obtain rfl : t.out.frames = fs := hfs
  have hall : chs ⊆ [.doorStatus, .lightingStatus, .turnStatus, .faultStatus, .heartbeat] := fun ch _ => by
    cases ch <;> decide
  rw [← hsound.length_eq]
  exact (hnodup.subperm hall).length_le

/-! ## What each operation transmits -/

/-- `f` sends on each channel at most one frame, a sound one with the channel's counter. -/
def SendsSoundly (f : State → State) : Prop := ∀ s, ∃ chs, Transmits chs s (f s)

theorem lightTick_transmits (now : Time) (s : State) : Transmits [] s (lightTick now s) := by
  unfold lightTick
  split <;> exact transmits_nothing (by simp) (by simp)

theorem turnTick_transmits (now : Time) (s : State) : Transmits [] s (turnTick now s) := by
  unfold turnTick
  split <;> exact transmits_nothing rfl rfl

theorem checkTimeout_transmits (now : Time) (s : State) : Transmits [] s (checkTimeout now s) := by
  unfold checkTimeout
  split <;> exact transmits_nothing (by simp) (by simp)

/-- R265: the fast trigger sends nothing. -/
theorem fastTrigger_transmits (now : Time) (s : State) : Transmits [] s (fastTrigger now s) := by
  unfold fastTrigger
  split
  · have hdoor : Transmits [] s (doorTick { s with lastFast := now }) := transmits_nothing rfl rfl
    exact (hdoor.trans (lightTick_transmits now _) (by simp)).trans (turnTick_transmits now _) (by simp)
  · exact transmits_nothing rfl rfl

/-- R266: the status trigger sends the three status frames, or nothing. -/
theorem statusTrigger_transmits (now : Time) (s : State) :
    ∃ chs ⊆ [TxChannel.doorStatus, .lightingStatus, .turnStatus], Transmits chs s (statusTrigger now s) := by
  unfold statusTrigger
  split
  · have hdoor : Transmits [.doorStatus] s (renderDoorStatus { s with lastStatus := now }) :=
      transmits_sendFrame .doorStatus rfl { s with lastStatus := now }
    exact ⟨_, List.Subset.refl _,
      (hdoor.trans (transmits_sendFrame .lightingStatus rfl _) (by simp)).trans
        (transmits_sendFrame .turnStatus rfl _) (by simp)⟩
  · exact ⟨[], List.nil_subset _, transmits_nothing rfl rfl⟩

/-- R267: the slow trigger sends the heartbeat and the fault status, or nothing. -/
theorem slowTrigger_transmits (now : Time) (s : State) :
    ∃ chs ⊆ [TxChannel.heartbeat, .faultStatus], Transmits chs s (slowTrigger now s) := by
  unfold slowTrigger
  split
  · have hbeat : Transmits [.heartbeat] s (renderHeartbeat now { s with lastSlow := now }) :=
      transmits_sendFrame .heartbeat rfl { s with lastSlow := now }
    exact ⟨_, List.Subset.refl _,
      (hbeat.trans (transmits_sendFrame .faultStatus rfl _) (by simp)).trans
        (checkTimeout_transmits now _) (by simp)⟩
  · exact ⟨[], List.nil_subset _, transmits_nothing rfl rfl⟩

/-- R264: the triggers of a SCHED send on different channels. -/
theorem sched_sendsSoundly (now : Time) : SendsSoundly (sched now) := fun s => by
  obtain ⟨chs, hsub, hstatus⟩ := statusTrigger_transmits now (fastTrigger now s)
  obtain ⟨chs', hsub', hslow⟩ := slowTrigger_transmits now (statusTrigger now (fastTrigger now s))
  have hapart : List.Disjoint [TxChannel.doorStatus, .lightingStatus, .turnStatus] [.heartbeat, .faultStatus] := by
    simp
  have hdisj : chs.Disjoint chs' := fun ch h h' => hapart (hsub h) (hsub' h')
  exact ⟨_, ((fastTrigger_transmits now s).trans hstatus (by simp)).trans hslow hdisj⟩

theorem perform_transmits {f : State → State} {s t : State} (h : perform f s = .next t) (hf : SendsSoundly f) :
    ∃ chs, Transmits chs s.begun t := by
  obtain rfl := (perform_eq_next _ _ _).1 h
  exact hf _

theorem performAt_transmits {now : Time} {f : State → State} {s t : State} (h : performAt now f s = .next t)
    (hf : SendsSoundly f) : ∃ chs, Transmits chs s.begun t := by
  obtain ⟨-, rfl⟩ := (performAt_eq_next _ _ _ _).1 h
  exact hf { s.begun with lastNow := now }

/-- R72, R274: of the operations that bring no frame, those that emit send one sound frame on each of their channels. -/
theorem exec_transmits_of_no_frame {i : Instr} {s t : State} (hrow : i.frame? = none)
    (hroute : ∀ f now, i ≠ .route f now) (h : exec i s = .next t) : ∃ chs, Transmits chs s.begun t := by
  cases i with
  | route f now => exact absurd rfl (hroute f now)
  | sched now => exact performAt_transmits h (sched_sendsSoundly now)
  | lightTick now => exact performAt_transmits h (fun u => ⟨[], lightTick_transmits now u⟩)
  | turnTick now => exact performAt_transmits h (fun u => ⟨[], turnTick_transmits now u⟩)
  | checkTimeout now => exact performAt_transmits h (fun u => ⟨[], checkTimeout_transmits now u⟩)
  | setAmbient level now =>
    exact performAt_transmits h (fun _ => ⟨[], transmits_nothing rfl rfl⟩)
  | renderDoorStatus => exact perform_transmits h (fun _ => ⟨_, transmits_sendFrame .doorStatus rfl _⟩)
  | renderLightStatus => exact perform_transmits h (fun _ => ⟨_, transmits_sendFrame .lightingStatus rfl _⟩)
  | renderTurnStatus => exact perform_transmits h (fun _ => ⟨_, transmits_sendFrame .turnStatus rfl _⟩)
  | renderFaultStatus => exact perform_transmits h (fun _ => ⟨_, transmits_sendFrame .faultStatus rfl _⟩)
  | renderHeartbeat now => exact performAt_transmits h (fun _ => ⟨_, transmits_sendFrame .heartbeat rfl _⟩)
  | faultReport code now =>
    have hc : code ≠ 0 := by rintro rfl; cases h
    refine performAt_transmits ((if_neg hc).symm.trans h) (fun u => ⟨[], transmits_nothing ?_ ?_⟩)
    · exact reportFault_txCtr code now u
    · rw [reportFault_out]
  | faultClear code =>
    refine perform_transmits h (fun u => ⟨[], transmits_nothing (clearFault_txCtr code u) ?_⟩)
    rw [clearFault_out]
  | doorTick | setDoorOpen | faultClearAll | faultIsActive | faultCount | faultFlags | faultMostRecent | buildVc |
    extractVersion | extractCounter | validateCounter =>
    cases h
    exact ⟨[], transmits_nothing rfl rfl⟩
  | checksum bytes =>
    obtain ⟨r, hr⟩ := onlyReturns_checksum h
    exact perform_transmits ((hr s).symm.trans h) (fun _ => ⟨[], transmits_nothing rfl rfl⟩)
  | validateChecksum claimed bytes =>
    obtain ⟨r, hr⟩ := onlyReturns_validateChecksum h
    exact perform_transmits ((hr s).symm.trans h) (fun _ => ⟨[], transmits_nothing rfl rfl⟩)
  | _ => cases hrow

/-- R36, R274: every operation that completes sends at most one frame on each channel, a sound one, and steps the
counters of just these channels; one that brings a frame sends nothing (R260, O27). -/
theorem exec_transmits {i : Instr} {s t : State} (h : exec i s = .next t) : ∃ chs, Transmits chs s.begun t := by
  by_cases hframe : ∃ f now, StandsFor i f now
  · obtain ⟨f, now, hf⟩ := hframe
    obtain ⟨-, -, -, -, -, -, -, hctr, -, -, -, -, -, -, hout⟩ :=
      commandsStayOnTheirChannel f now s t ((hf.exec_eq s).symm.trans h)
    exact ⟨[], transmits_nothing hctr hout⟩
  · have hrow : i.frame? = none :=
      Option.eq_none_iff_forall_ne_some.2 fun (f, now) hf => hframe ⟨f, now, .inl hf⟩
    exact exec_transmits_of_no_frame hrow (fun f now hf => hframe ⟨f, now, .inr hf⟩) h

/-- Settles O55: what an operation emits it has transmitted (`exec_transmits`), each frame a sound one with the counter
of its channel from before the operation. -/
theorem emittedFramesAreSound : Obligations.EmittedFramesAreSound := by
  unfold Obligations.EmittedFramesAreSound
  intro i s t h f hf
  obtain ⟨chs, htransmits⟩ := exec_transmits h
  exact htransmits.sound hf

/-- Settles O56: the counter steps once for each time its channel sent (`toNat_get_foldl_bump`), and so many frames
carry the channel's identifier (`Transmits.length_filter`). -/
theorem txCountersCountTheFrames : Obligations.TxCountersCountTheFrames := by
  unfold Obligations.TxCountersCountTheFrames
  intro i s t ch h
  obtain ⟨chs, htransmits⟩ := exec_transmits h
  rw [htransmits.length_filter, ← toNat_get_foldl_bump]
  obtain ⟨-, hctr, -⟩ := htransmits
  rw [hctr]
  rfl

/-! ## ROUTE of other frames -/

/-- Settles O28: ROUTE ignores a frame with another identifier (`routeFrame_of_other`), and the transmit rows are
ignored without being looked at. -/
theorem unrecognisedFramesAreIgnored : Obligations.UnrecognisedFramesAreIgnored := by
  unfold Obligations.UnrecognisedFramesAreIgnored
  intro s now hl
  refine ⟨fun f hlen hdoor hlight hturn => ?route, fun b0 b1 b2 b3 b4 b5 vc ck => ?rows⟩
  case route => exact (exec_route_eq_next ..).2 ⟨hlen, hl, (routeFrame_of_other hdoor hlight hturn now _).symm⟩
  case rows =>
    have hignore : ignoreFrame now s = .next (s.atTime now) := performAt_of_le hl _
    exact ⟨hignore, hignore, hignore, hignore, hignore⟩

/-! ## RENDER_FAULT_STATUS and RENDER_HEARTBEAT -/

/-- R33: the two bytes of the flag word as numbers. -/
theorem toNat_flags (w : BitVec 16) : (flags1 w).toNat + 256 * (flags2 w).toNat = w.toNat := by
  simp only [flags1, flags2, BitVec.extractLsb'_toNat, Nat.shiftRight_eq_div_pow]
  omega

/-- R268: the low 16 bits of a time in two bytes. -/
theorem toNat_time_low (t : Time) :
    (t.extractLsb' 0 8).toNat + 256 * (t.extractLsb' 8 8).toNat = t.toNat % 65536 := by
  simp only [BitVec.extractLsb'_toNat, Nat.shiftRight_eq_div_pow]
  omega

/-- Settles O53: the frame is the one `sendFrame` builds; its bytes 0, 1, 4 and 5 are read by `toNat_flags` and
`toNat_time_low`. -/
theorem faultStatusShowsTheTracker : Obligations.FaultStatusShowsTheTracker := by
  unfold Obligations.FaultStatusShowsTheTracker
  exact ⟨rfl, fun s => ⟨flags1 s.flags, flags2 s.flags, s.recentTime.extractLsb' 8 8, s.recentTime.extractLsb' 0 8,
    _, _, rfl, toNat_flags s.flags, toNat_time_low s.recentTime, rfl, rfl⟩⟩

/-- R269: the state byte tells whether any code is active. -/
theorem bcmState_eq (s : State) : bcmState s = if s.records = [] then 0 else 1 := by
  unfold bcmState
  cases s.records <;> rfl

/-- Settles O54: the frame is the one `sendFrame` builds from `bcmState_eq` and the minutes of `now`. -/
theorem heartbeatShowsFaultAndUptime : Obligations.HeartbeatShowsFaultAndUptime := by
  unfold Obligations.HeartbeatShowsFaultAndUptime
  intro s now hl
  exact ⟨rfl, bcmState s, uptimeMinutes now, _, _, performAt_of_le hl _, bcmState_eq s,
    BitVec.toNat_ofNat .., rfl, rfl⟩

/-! ## Sequences of operations -/

/-- R67: two sequences performed one after the other. -/
theorem performAll_append {is js : List Instr} {s t u : State} {fs gs : List Frame}
    (his : performAll is s = some (t, fs)) (hjs : performAll js t = some (u, gs)) :
    performAll (is ++ js) s = some (u, fs ++ gs) := by
  induction is generalizing s fs with
  | nil => cases his; exact hjs
  | cons i is ih =>
    unfold performAll at his
    split at his
    next t' hexec =>
      split at his
      next v fs' hrest =>
        cases his
        rw [List.append_assoc]
        exact performAll_cons hexec (ih hrest)
      next => cases his
    next => cases his
    next => cases his

/-! ## SCHED -/

/-- `u` as it stands within a SCHED at `now`: with the timestamps the triggers have set so far, and with the frames
`fs` emitted so far. -/
def State.inSched (u : State) (now fast status slow : Time) (fs : List Frame) : State :=
  { u with lastFast := fast, lastStatus := status, lastSlow := slow, lastNow := now, out := ⟨.none, fs⟩ }

/-- R264: within a SCHED at `now`, `f` does what the operations `is` do when they are performed on their own, the
timestamps aside, and it emits the frames they emit. -/
def Invokes (now : Time) (is : List Instr) (f : State → State) : Prop :=
  ∀ u : State, u.lastNow ≤ now → ∃ t fs, performAll is u = some (t, fs) ∧ t.lastNow ≤ now ∧ t.cfg = u.cfg ∧
    ∀ fast status slow fs₀,
      f (u.inSched now fast status slow fs₀) = t.inSched now fast status slow (fs₀ ++ fs)

section
variable {now : Time} {i : Instr} {is js : List Instr} {f g : State → State}

/-- R67: what invokes one sequence of operations and then another invokes both in order. -/
theorem Invokes.append (hf : Invokes now is f) (hg : Invokes now js g) :
    Invokes now (is ++ js) (fun s => g (f s)) := fun u hu => by
  obtain ⟨t, fs, hrun, ht, hcfg, hf⟩ := hf u hu
  obtain ⟨v, gs, hrun', hv, hcfg', hg⟩ := hg t ht
  refine ⟨v, fs ++ gs, performAll_append hrun hrun', hv, hcfg'.trans hcfg, fun fast status slow fs₀ => ?_⟩
  simp only [hf, hg, List.append_assoc]

/-- R264: what does within a SCHED what one operation does on its own invokes that operation. -/
theorem invokes_of_exec (h : ∀ u : State, u.lastNow ≤ now → ∃ t, exec i u = .next t ∧ t.lastNow ≤ now ∧
      ∀ fast status slow fs, f (u.inSched now fast status slow fs) =
        t.inSched now fast status slow (fs ++ t.out.frames)) : Invokes now [i] f := fun u hu => by
  obtain ⟨t, hexec, ht, hf⟩ := h u hu
  refine ⟨t, _, performAll_cons hexec rfl, ht, (exec_cfg_port hexec).1, fun fast status slow fs => ?_⟩
  rw [hf, List.append_nil]

/-- R263: `f` neither reads nor writes what a SCHED changes beside its operations, and emits nothing. -/
def BlindToSched (f : State → State) : Prop :=
  ∀ (u : State) now fast status slow fs,
    f (u.inSched now fast status slow fs) = (f u).inSched now fast status slow fs

/-- R264: an operation presented at `now` starts from the clock and the cleared output a SCHED starts from. -/
theorem invokes_of_performAt (hi : ∀ u, exec i u = performAt now f u) (hf : BlindToSched f) : Invokes now [i] f :=
  invokes_of_exec fun u hu => by
    have hown : f { u.begun with lastNow := now } = (f u).inSched now u.lastFast u.lastStatus u.lastSlow [] :=
      hf u now u.lastFast u.lastStatus u.lastSlow []
    refine ⟨_, (hi u).trans (performAt_of_le hu f), ?_, fun fast status slow fs => ?_⟩
    · rw [hown]
      exact BitVec.le_refl _
    · rw [hown, hf]
      simp [State.inSched]

end

theorem State.inSched_ite (c : Prop) [Decidable c] (s t : State) (now fast status slow : Time) (fs : List Frame) :
    (if c then s else t).inSched now fast status slow fs =
      if c then s.inSched now fast status slow fs else t.inSched now fast status slow fs :=
  apply_ite (State.inSched · now fast status slow fs) c s t

theorem blindToSched_reportFault (c : Byte) (now' : Time) : BlindToSched (reportFault c now') := by
  intro u now fast status slow fs
  unfold reportFault
  rw [State.inSched_ite, State.inSched_ite]
  rfl

theorem blindToSched_lightTick (now' : Time) : BlindToSched (lightTick now') := by
  intro u now fast status slow fs
  unfold lightTick
  rw [blindToSched_reportFault, State.inSched_ite]
  rfl

theorem blindToSched_turnTick (now' : Time) : BlindToSched (turnTick now') := by
  intro u now fast status slow fs
  unfold turnTick
  rw [State.inSched_ite]
  rfl

theorem blindToSched_checkTimeout (now' : Time) : BlindToSched (checkTimeout now') := by
  intro u now fast status slow fs
  unfold checkTimeout
  rw [State.inSched_ite, ← blindToSched_reportFault]
  rfl

/-- R265: what the fast trigger invokes. -/
theorem invokes_fast (now : Time) : Invokes now [.doorTick, .lightTick now, .turnTick now]
    (fun s => turnTick now (lightTick now (doorTick s))) := by
  have hdoor : Invokes now [.doorTick] doorTick := invokes_of_exec fun u hu =>
    ⟨_, rfl, hu, fun _ _ _ fs => by rw [doorTick_out, State.begun_out, List.append_nil]; rfl⟩
  exact (hdoor.append (invokes_of_performAt (fun _ => rfl) (blindToSched_lightTick now))).append
    (invokes_of_performAt (fun _ => rfl) (blindToSched_turnTick now))

/-- R266: what the status trigger invokes. -/
theorem invokes_status (now : Time) : Invokes now [.renderDoorStatus, .renderLightStatus, .renderTurnStatus]
    (fun s => renderTurnStatus (renderLightStatus (renderDoorStatus s))) := by
  have hdoor : Invokes now [.renderDoorStatus] renderDoorStatus :=
    invokes_of_exec fun u hu => ⟨_, rfl, hu, fun _ _ _ _ => rfl⟩
  have hlight : Invokes now [.renderLightStatus] renderLightStatus :=
    invokes_of_exec fun u hu => ⟨_, rfl, hu, fun _ _ _ _ => rfl⟩
  have hturn : Invokes now [.renderTurnStatus] renderTurnStatus :=
    invokes_of_exec fun u hu => ⟨_, rfl, hu, fun _ _ _ _ => rfl⟩
  exact (hdoor.append hlight).append hturn

/-- R267: what the slow trigger invokes. -/
theorem invokes_slow (now : Time) : Invokes now [.renderHeartbeat now, .renderFaultStatus, .checkTimeout now]
    (fun s => checkTimeout now (renderFaultStatus (renderHeartbeat now s))) := by
  have hbeat : Invokes now [.renderHeartbeat now] (renderHeartbeat now) :=
    invokes_of_exec fun u hu => ⟨_, performAt_of_le hu _, BitVec.le_refl _, fun _ _ _ _ => rfl⟩
  have hfault : Invokes now [.renderFaultStatus] renderFaultStatus :=
    invokes_of_exec fun u hu => ⟨_, rfl, hu, fun _ _ _ _ => rfl⟩
  exact (hbeat.append hfault).append (invokes_of_performAt (fun _ => rfl) (blindToSched_checkTimeout now))

/-- R263: a trigger invokes its operations where it is due, after setting its timestamp; else it does nothing. -/
theorem Invokes.trigger {now : Time} {is : List Instr} {f : State → State} (hf : Invokes now is f) (due : Prop)
    [Decidable due] {u : State} (hu : u.lastNow ≤ now) :
    ∃ t fs, performAll (if due then is else []) u = some (t, fs) ∧ t.lastNow ≤ now ∧ t.cfg = u.cfg ∧
      ∀ fast fast' status status' slow slow' fs₀,
        (if due then f (u.inSched now fast status slow fs₀) else u.inSched now fast' status' slow' fs₀) =
          t.inSched now (if due then fast else fast') (if due then status else status') (if due then slow else slow')
            (fs₀ ++ fs) := by
  split
  · obtain ⟨t, fs, hrun, ht, hcfg, hf⟩ := hf u hu
    exact ⟨t, fs, hrun, ht, hcfg, fun _ _ _ _ _ _ _ => hf ..⟩
  · exact ⟨u, [], rfl, hu, rfl, fun _ _ _ _ _ _ _ => by rw [List.append_nil]⟩

section
variable (u : State) (now fast status slow : Time) (fs : List Frame)

/-- R263, R265: the fast trigger within a SCHED. -/
theorem fastTrigger_inSched : fastTrigger now (u.inSched now fast status slow fs) =
    if u.cfg.fastPeriodMs.toNat ≤ now.toNat - fast.toNat then
      turnTick now (lightTick now (doorTick (u.inSched now now status slow fs)))
    else u.inSched now fast status slow fs := by
  simp only [fastTrigger, triggerDue, decide_eq_true_eq]
  rfl

/-- R263, R266: the status trigger within a SCHED. -/
theorem statusTrigger_inSched : statusTrigger now (u.inSched now fast status slow fs) =
    if 100 ≤ now.toNat - status.toNat then
      renderTurnStatus (renderLightStatus (renderDoorStatus (u.inSched now fast now slow fs)))
    else u.inSched now fast status slow fs := by
  simp only [statusTrigger, triggerDue, decide_eq_true_eq]
  rfl

/-- R263, R267: the slow trigger within a SCHED. -/
theorem slowTrigger_inSched : slowTrigger now (u.inSched now fast status slow fs) =
    if u.cfg.slowPeriodMs.toNat ≤ now.toNat - slow.toNat then
      checkTimeout now (renderFaultStatus (renderHeartbeat now (u.inSched now fast status now fs)))
    else u.inSched now fast status slow fs := by
  simp only [slowTrigger, triggerDue, decide_eq_true_eq]
  rfl

end

/-- Settles O51: each trigger of a SCHED, where it is due, invokes its operations (`Invokes.trigger`) on the state the
triggers before it have left; the frames are at most one a channel (`exec_transmits`). -/
theorem schedRunsTheDueTriggers : Obligations.SchedRunsTheDueTriggers := by
  unfold Obligations.SchedRunsTheDueTriggers
  intro s now hl
  obtain ⟨t₁, fs₁, hrun₁, hl₁, hcfg₁, hfast⟩ :=
    (invokes_fast now).trigger (s.cfg.fastPeriodMs.toNat ≤ now.toNat - s.lastFast.toNat) hl
  obtain ⟨t₂, fs₂, hrun₂, hl₂, hcfg₂, hstatus⟩ :=
    (invokes_status now).trigger (100 ≤ now.toNat - s.lastStatus.toNat) hl₁
  obtain ⟨t₃, fs₃, hrun₃, -, -, hslow⟩ :=
    (invokes_slow now).trigger (s.cfg.slowPeriodMs.toNat ≤ now.toNat - s.lastSlow.toNat) hl₂
  have hrun : performAll (dueOperations now s) s = some (t₃, fs₁ ++ fs₂ ++ fs₃) :=
    performAll_append (performAll_append hrun₁ hrun₂) hrun₃
  have hexec : exec (.sched now) s = .next (t₃.inSched now
      (if s.cfg.fastPeriodMs.toNat ≤ now.toNat - s.lastFast.toNat then now else s.lastFast)
      (if 100 ≤ now.toNat - s.lastStatus.toNat then now else s.lastStatus)
      (if s.cfg.slowPeriodMs.toNat ≤ now.toNat - s.lastSlow.toNat then now else s.lastSlow) (fs₁ ++ fs₂ ++ fs₃)) := by
    have hstart : exec (.sched now) s =
        .next (sched now (s.inSched now s.lastFast s.lastStatus s.lastSlow [])) := performAt_of_le hl _
    rw [hstart, sched, fastTrigger_inSched, hfast, ite_self, ite_self, statusTrigger_inSched, hstatus, ite_self,
      ite_self, slowTrigger_inSched, hcfg₂, hcfg₁, hslow, ite_self, ite_self, List.nil_append]
  obtain ⟨chs, htransmits⟩ := exec_transmits hexec
  exact ⟨rfl, t₃, _, hrun, htransmits.length_le, hexec⟩

/-- R10: the fast and the slow period of a legal configuration are not 0. -/
theorem Config.periods_pos_of_legal {c : Config} (h : c.legal = true) :
    0 < c.fastPeriodMs.toNat ∧ 0 < c.slowPeriodMs.toNat := by
  simp only [Config.legal, Bool.and_eq_true, decide_eq_true_eq, BitVec.lt_def] at h
  obtain ⟨⟨-, hfast⟩, hslow⟩ := h
  exact ⟨hfast, hslow⟩

/-- R271: a trigger with a period other than 0 is not due at the time of a SCHED that has tested it. -/
theorem not_due_again {period : Nat} (h : 0 < period) (now last : Time) :
    ¬ period ≤ now.toNat - (if period ≤ now.toNat - last.toNat then now else last).toNat := by
  split
  · omega
  · assumption

/-- Settles O52: after a SCHED no trigger is due (`not_due_again`), so that the second one performs no operation
(O51) and sets no timestamp. -/
theorem schedDoesNotCatchUp : Obligations.SchedDoesNotCatchUp := by
  unfold Obligations.SchedDoesNotCatchUp
  intro s t now hlegal h
  obtain ⟨hfast, hslow⟩ := Config.periods_pos_of_legal hlegal
  obtain ⟨hl, -⟩ := (performAt_eq_next now (sched now) s t).1 h
  obtain ⟨-, u, fs, -, -, hexec⟩ := schedRunsTheDueTriggers s now hl
  have hcfg : t.cfg = s.cfg := (exec_cfg_port h).1
  have ht := Host.Outcome.next.inj (h.symm.trans hexec)
  have hnow : t.lastNow = now := congrArg State.lastNow ht
  have hfastDone : ¬ t.cfg.fastPeriodMs.toNat ≤ now.toNat - t.lastFast.toNat := by
    rw [hcfg, congrArg State.lastFast ht]
    exact not_due_again hfast now s.lastFast
  have hstatusDone : ¬ 100 ≤ now.toNat - t.lastStatus.toNat := by
    rw [congrArg State.lastStatus ht]
    exact not_due_again (by decide) now s.lastStatus
  have hslowDone : ¬ t.cfg.slowPeriodMs.toNat ≤ now.toNat - t.lastSlow.toNat := by
    rw [hcfg, congrArg State.lastSlow ht]
    exact not_due_again hslow now s.lastSlow
  obtain ⟨-, v, gs, hrun, -, hagain⟩ := schedRunsTheDueTriggers t now (hnow ▸ BitVec.le_refl t.lastNow)
  rw [dueOperations, if_neg hfastDone, if_neg hstatusDone, if_neg hslowDone] at hrun
  cases hrun
  rw [hagain, if_neg hfastDone, if_neg hstatusDone, if_neg hslowDone]
  rfl

end Sys2Proof.Machine
end

section
/-! PROOFS. Reset and hazards (70_reset_and_hazards.md): the idle step and the refused configuration (R321, U7), which
operations complete (R326, R298, U1 to U3, U5), and that no stored time lies in the future (R326). -/

namespace Sys2Proof.Machine

/-! ## The idle step -/

/-- U7: a configuration that breaks R10 is refused, whatever is presented. -/
theorem step_of_illegal {s : State} (h : s.cfg.legal = false) : step s = .refused .illegalConfig := by
  rw [step, h, if_neg Bool.false_ne_true]

/-- Settles O4: at an empty port a step answers the state itself (`step_eq_next`), and the configuration is looked
at first (`step_of_illegal`). -/
theorem stepIdlesOrRefusesTheConfiguration : Obligations.StepIdlesOrRefusesTheConfiguration := by
  unfold Obligations.StepIdlesOrRefusesTheConfiguration
  exact fun s => ⟨fun hlegal hport => (step_eq_next s s).2 ⟨hlegal, .inl ⟨hport, rfl⟩⟩, step_of_illegal⟩

/-! ## Which operations complete -/

/-- R62, R66: one atomic change of state, at a time or without one. -/
def performTimed : Option Time → (State → State) → State → Host.Outcome State Fault Refusal
  | some now => performAt now
  | none => perform

/-- R326: a change of state completes unless it has a time and the clock has gone backwards. -/
theorem performTimed_completes_iff (time : Option Time) (f : State → State) (s : State) :
    (∃ t, performTimed time f s = .next t) ↔ ∀ now, time = some now → s.lastNow ≤ now := by
  cases time with
  | none => simp [performTimed, perform_eq_next]
  | some now => simp [performTimed, performAt_eq_next]

/-- R66, R298: every well-formed operation is one atomic change of state at the time it takes, if any; only for the
four with a check of their own (U1, U2, U5) does that rest on the operands. -/
theorem exec_of_wellFormed {i : Instr} (h : i.wellFormed = true) :
    ∃ f, ∀ s, exec i s = performTimed i.time? f s := by
  cases i with
  | route f now => exact ⟨routeFrame f now, fun _ => if_pos h⟩
  | faultReport code now => exact ⟨reportFault code now, fun _ => if_neg (of_decide_eq_true h)⟩
  | checksum bytes =>
    cases bytes with
    | nil => cases h
    | cons b bs => exact ⟨fun u => u.returning (.byte (checksum (b :: bs))), fun _ => rfl⟩
  | validateChecksum claimed bytes =>
    cases bytes with
    | nil => cases h
    | cons b bs => exact ⟨fun u => u.returning (.bit (validateChecksum (b :: bs) claimed)), fun _ => rfl⟩
  | doorStatus | lightingStatus | turnStatus | faultStatus | heartbeat => exact ⟨fun u => u, fun _ => rfl⟩
  | _ => exact ⟨_, fun _ => rfl⟩

/-- U1, U2, U5: an operation that completes is well-formed. -/
theorem wellFormed_of_exec {i : Instr} {s t : State} (h : exec i s = .next t) : i.wellFormed = true := by
  cases i with
  | route f now =>
    obtain ⟨hlen, -, -⟩ := (exec_route_eq_next ..).1 h
    exact decide_eq_true hlen
  | faultReport code now =>
    refine decide_eq_true ?_
    rintro rfl
    cases h
  | checksum bytes | validateChecksum _ bytes =>
    cases bytes with
    | nil => cases h
    | cons => rfl
  | _ => rfl

/-- Settles O57: an operation that completes is well-formed (`wellFormed_of_exec`), and a well-formed one is a change
of state that only the clock can stop (`exec_of_wellFormed`, `performTimed_completes_iff`). -/
theorem operationsCompleteExactlyWhenLegal : Obligations.OperationsCompleteExactlyWhenLegal := by
  unfold Obligations.OperationsCompleteExactlyWhenLegal
  intro i s
  by_cases hwf : i.wellFormed = true
  · obtain ⟨f, hexec⟩ := exec_of_wellFormed hwf
    rw [hexec, performTimed_completes_iff, and_iff_right hwf]
  · exact ⟨fun ⟨_, h⟩ => absurd (wellFormed_of_exec h) hwf, fun h => absurd h.1 hwf⟩

/-! ## Stored times -/

/-- R141: a record after a bump is one from before it, with a new last time if it is the code's own. -/
theorem mem_bump {c : Byte} {now : Time} {r : FaultRecord} {rs : List FaultRecord} (h : r ∈ bumpRecord c now rs) :
    ∃ r₀ ∈ rs, r.firstSeen = r₀.firstSeen ∧ (r.lastSeen = r₀.lastSeen ∨ r.lastSeen = now) := by
  induction rs with
  | nil => cases h
  | cons a rs ih =>
    unfold bumpRecord at h
    split at h <;> obtain rfl | hmem := List.mem_cons.1 h
    · exact ⟨a, List.mem_cons_self, rfl, .inr rfl⟩
    · exact ⟨r, List.mem_cons_of_mem _ hmem, rfl, .inl rfl⟩
    · exact ⟨r, List.mem_cons_self, rfl, .inl rfl⟩
    · obtain ⟨r₀, hr₀, htimes⟩ := ih hmem
      exact ⟨r₀, List.mem_cons_of_mem _ hr₀, htimes⟩

/-- R326 after a stored report at the clock's time, where the records it leaves hold no later one. -/
theorem State.clockInv.report {s : State} (h : s.clockInv) (c : Byte) {rs : List FaultRecord}
    (hrs : ∀ r ∈ rs, r.firstSeen ≤ s.lastNow ∧ r.lastSeen ≤ s.lastNow) :
    (noteReport c s.lastNow { s with records := rs }).clockInv := by
  obtain ⟨hdoor, hlight, hturn, hambient, htoggle, -, hfast, hstatus, hslow, -⟩ := h
  exact ⟨hdoor, hlight, hturn, hambient, htoggle, BitVec.le_refl _, hfast, hstatus, hslow, hrs⟩

/-- R326, R141: a report at the clock's time stores no later one. -/
theorem reportFault_clockInv (c : Byte) {s : State} (h : s.clockInv) : (reportFault c s.lastNow s).clockInv := by
  have ⟨_, _, _, _, _, _, _, _, _, hrecords⟩ := h
  rcases reportFault_cases c s.lastNow s with ⟨-, e⟩ | ⟨-, -, e⟩ | ⟨-, -, e⟩ <;> rw [e]
  case inl =>
    refine h.report c fun r hr => ?_
    obtain ⟨r₀, hr₀, hfirst, hlast⟩ := mem_bump hr
    obtain ⟨hfirst₀, hlast₀⟩ := hrecords r₀ hr₀
    refine ⟨hfirst ▸ hfirst₀, ?_⟩
    obtain hlast | hlast := hlast
    · exact hlast ▸ hlast₀
    · exact BitVec.le_of_eq hlast
  case inr.inl =>
    refine h.report c fun r hr => ?_
    obtain rfl | hr := (mem_insert _ _ _).1 hr
    · exact ⟨BitVec.le_refl _, BitVec.le_refl _⟩
    · exact hrecords r hr
  case inr.inr => exact h

/-- R326, R143: a clear stores no time. -/
theorem clearFault_clockInv (c : Byte) {s : State} (h : s.clockInv) : (clearFault c s).clockInv := by
  rcases clearFault_cases c s with ⟨-, e⟩ | ⟨-, e⟩ <;> rw [e]
  case inl =>
    obtain ⟨hdoor, hlight, hturn, hambient, htoggle, hrecent, hfast, hstatus, hslow, hrecords⟩ := h
    refine ⟨hdoor, hlight, hturn, hambient, htoggle, hrecent, hfast, hstatus, hslow, fun r hr => hrecords r ?_⟩
    rw [removeRecord_eq_filter] at hr
    exact List.mem_of_mem_filter hr
  case inr => exact h

/-- R326: what is not after the clock is not after a later reading of it. -/
theorem State.clockInv.advance {s : State} (h : s.clockInv) {now : Time} (hl : s.lastNow ≤ now) :
    { s.begun with lastNow := now }.clockInv := by
  have earlier : ∀ {τ : Time}, τ ≤ s.lastNow → τ ≤ now := fun hτ => BitVec.le_trans hτ hl
  obtain ⟨hdoor, hlight, hturn, hambient, htoggle, hrecent, hfast, hstatus, hslow, hrecords⟩ := h
  exact ⟨earlier hdoor, earlier hlight, earlier hturn, earlier hambient, earlier htoggle, earlier hrecent,
    earlier hfast, earlier hstatus, earlier hslow,
    fun r hr => ⟨earlier (hrecords r hr).1, earlier (hrecords r hr).2⟩⟩

/-- R326: no stored time is after the clock, and the clock has reached `start`. -/
def State.clockInvFrom (start : Time) (s : State) : Prop := s.clockInv ∧ start ≤ s.lastNow

theorem reportFault_clockInvFrom (c : Byte) {s : State} {start : Time} (h : s.clockInvFrom start) :
    (reportFault c s.lastNow s).clockInvFrom start := by
  obtain ⟨hclock, hstart⟩ := h
  exact ⟨reportFault_clockInv c hclock, by rwa [reportFault_lastNow]⟩

/-- R326: an update that stores a time stores the clock's, and none sets the clock. -/
theorem keeps_clockInvFrom (start : Time) : Keeps (State.clockInvFrom start) where
  returning := fun _ _ h => h
  send := fun _ _ _ _ h => h
  report := fun _ c _ _ h => reportFault_clockInvFrom c h
  result := fun _ ch _ _ h => by cases ch <;> exact h
  accept := fun s ch _ ⟨⟨hdoor, hlight, hturn, hrest⟩, hstart⟩ _ => by
    have hnow : s.lastNow ≤ s.lastNow := BitVec.le_refl _
    cases ch with
    | door => exact ⟨⟨hnow, hlight, hturn, hrest⟩, hstart⟩
    | light => exact ⟨⟨hdoor, hnow, hturn, hrest⟩, hstart⟩
    | turn => exact ⟨⟨hdoor, hlight, hnow, hrest⟩, hstart⟩
  lock := fun _ _ h => h
  lighting := fun _ c m h => by cases c <;> cases m <;> exact h
  recompute := fun _ h => h
  ambient := fun _ _ ⟨⟨hdoor, hlight, hturn, _, hrest⟩, hstart⟩ =>
    ⟨⟨hdoor, hlight, hturn, BitVec.le_refl _, hrest⟩, hstart⟩
  enter := fun _ _ _ _ ⟨⟨hdoor, hlight, hturn, hambient, _, hrest⟩, hstart⟩ =>
    ⟨⟨hdoor, hlight, hturn, hambient, BitVec.le_refl _, hrest⟩, hstart⟩
  leave := fun _ _ h => h
  flip := fun _ _ ⟨⟨hdoor, hlight, hturn, hambient, _, hrest⟩, hstart⟩ =>
    ⟨⟨hdoor, hlight, hturn, hambient, BitVec.le_refl _, hrest⟩, hstart⟩
  fast := fun _ ⟨⟨hdoor, hlight, hturn, hambient, htoggle, hrecent, _, hrest⟩, hstart⟩ =>
    ⟨⟨hdoor, hlight, hturn, hambient, htoggle, hrecent, BitVec.le_refl _, hrest⟩, hstart⟩
  status := fun _ ⟨⟨hdoor, hlight, hturn, hambient, htoggle, hrecent, hfast, _, hrest⟩, hstart⟩ =>
    ⟨⟨hdoor, hlight, hturn, hambient, htoggle, hrecent, hfast, BitVec.le_refl _, hrest⟩, hstart⟩
  slow := fun _ ⟨⟨hdoor, hlight, hturn, hambient, htoggle, hrecent, hfast, hstatus, _, hrest⟩, hstart⟩ =>
    ⟨⟨hdoor, hlight, hturn, hambient, htoggle, hrecent, hfast, hstatus, BitVec.le_refl _, hrest⟩, hstart⟩
  clear := fun _ c ⟨h, hstart⟩ => ⟨clearFault_clockInv c h, by rwa [clearFault_lastNow]⟩
  clearAll := fun _ ⟨⟨hdoor, hlight, hturn, hambient, htoggle, hrecent, hfast, hstatus, hslow, _⟩, hstart⟩ =>
    ⟨⟨hdoor, hlight, hturn, hambient, htoggle, hrecent, hfast, hstatus, hslow, fun _ h => nomatch h⟩, hstart⟩
  doorOpen := fun _ _ h => h

/-- Settles O58: a step sets the clock to no earlier time (`State.clockInv.advance`) and is then made of updates that
keep it and store no other (`keeps_clockInvFrom`), from the reading before the step on. -/
theorem storedTimesStayInThePast : Obligations.StoredTimesStayInThePast := by
  unfold Obligations.StoredTimesStayInThePast
  intro s t h hstep
  exact (keeps_clockInvFrom s.lastNow).step (fun _ c _ hu => reportFault_clockInvFrom c hu) (fun _ hu => hu)
    (fun _ _ hu => hu) (fun _ _ ⟨hu, hstart⟩ hl => ⟨hu.advance hl, BitVec.le_trans hstart hl⟩)
    ⟨h, BitVec.le_refl _⟩ hstep

end Sys2Proof.Machine
end
